-- ==== Sys2Proof/Word.lean ====
section
/-! DEFINITION. The words of the machine: the widths the spec gives its registers (spec/10_state.md R21, R24,
R31; spec/20_memory.md R61) and the control fields of a PERFEVTSEL word (R31, R32). -/

namespace Sys2Proof

/-- One byte of an instruction as it lies in memory (R90). -/
abbrev Byte := BitVec 8

/-- An interface register EAX, ECX or EDX: 32 bits (R21). -/
abbrev Reg := BitVec 32

/-- The value a PMU register presents on a read or takes on a write: 64 bits (R6 `MSRW`). -/
abbrev MsrValue := BitVec 64

/-- The stored state of a performance counter: 48 bits (R6 `CTRW`, R25). -/
abbrev Count48 := BitVec 48

/-- The stored state of an event-select register: 32 bits (R31). -/
abbrev SelWord := BitVec 32

/-- An instruction address. Its width is not in the spec (D3); 64 bits are PRESUMED (log entry 1). -/
abbrev Addr := BitVec 64

/-- The number of occurrences of one event in one clock: 0 to 3 (R6 `MAXEV`). -/
abbrev Occ := Fin 4

/-- The fields of a PERFEVTSEL word beside EVENT_SELECT, named as in R31 and R32: what a counter does with
the event it selects. -/
structure EvtCtl where
  /-- UNIT_MASK, bits 15–8 (R34). -/
  unitMask : BitVec 8
  /-- USR, bit 16 (R35). -/
  usr : Bool
  /-- OS, bit 17 (R36). -/
  os : Bool
  /-- E, bit 18 (R37). -/
  e : Bool
  /-- PC, bit 19 (R38). -/
  pc : Bool
  /-- INT, bit 20 (R39). -/
  int : Bool
  /-- Bit 21, reserved, SBZ; stored (R40). -/
  sbz : Bool
  /-- EN, bit 22 (R41). -/
  en : Bool
  /-- INV, bit 23 (R42). -/
  inv : Bool
  /-- CNT_MASK, bits 31–24 (R43). -/
  cntMask : BitVec 8
deriving DecidableEq, Repr

end Sys2Proof
end

