-- ==== Sys2Proof/Config.lean ====
section
/-! DEFINITION. What the implementation, the platform and the environment fix: the parameters of
spec/00_scope.md R7, the agents of R8 and the moves the environment may make, and the free values, each an
opaque constant that nothing in Lean can evaluate (R9, R150, R75). -/

namespace Sys2Proof

/-- The cores of a package. `core1` exists only on a dual-core part (R7 `NumCores`, R326). -/
inductive CoreId
  | core0
  | core1
deriving DecidableEq, Repr, Inhabited

/-- The other core of a dual-core package (R325: cores `c` and `c'`). -/
def CoreId.other : CoreId → CoreId
  | .core0 => .core1
  | .core1 => .core0

/-- The index `i` of a counter and of its event-select register: 0 to 3 (R6 `NCTR`, R16). -/
inductive CtrId
  | ctr0
  | ctr1
  | ctr2
  | ctr3
deriving DecidableEq, Repr, Inhabited

/-- The four indices, in order. -/
def CtrId.all : List CtrId := [.ctr0, .ctr1, .ctr2, .ctr3]

/-- The three general registers the PMU borrows from the core (R21). -/
inductive IfReg
  | eax
  | ecx
  | edx
deriving DecidableEq, Repr, Inhabited

/-- Silicon revision, ordered `preD < D < E` (R7 `Rev`). -/
inductive Rev
  | preD
  | D
  | E
deriving DecidableEq, Repr, Inhabited

/-- Cores in the package (R7 `NumCores`). -/
inductive NumCores
  | one
  | two
deriving DecidableEq, Repr, Inhabited

/-- Unit of one DRAM access in event E0h (R7 `DramGranularity`). -/
inductive DramGranularity
  | bytes32
  | bytes64
deriving DecidableEq, Repr, Inhabited

/-- Single- or dual-channel DRAM, used only in the formulas of event E3h (R7 `DramWidthBytes`). -/
inductive DramChannels
  | single
  | dual
deriving DecidableEq, Repr, Inhabited

/-- One event that a part defines: its EVENT_SELECT, the revision from which it is defined, and the bits of its
UNIT_MASK table, each with the revision from which it is (R88, R297). No bits: the event has no UNIT_MASK table. -/
structure DefinedEvent where
  select : BitVec 8
  minRev : Rev
  bits : List (BitVec 8 × Rev)
deriving DecidableEq, Repr, Inhabited

/-- Which (EVENT_SELECT, UNIT_MASK) pairs are defined (R7 `EventSet`). The first entry for a number is the one that
counts. -/
abbrev EventSet := List DefinedEvent

/-- The parameters that R7 leaves to the implementation. One value per machine: State carries it so that a
statement about every state is a statement about every part, and no step writes it. DESIGN CHOICE (log entry 24): R291
says that 32-byte granularity applies to single-channel systems only, but R7 lists `dramGranularity` and `dramChannels`
independently, and so does this structure; it admits the pair 32 bytes and dual channels. -/
structure Part where
  rev : Rev
  numCores : NumCores
  eventSet : EventSet
  dramGranularity : DramGranularity
  dramChannels : DramChannels
deriving DecidableEq, Repr, Inhabited

/-- What the environment may do between steps (R8 agent 4; R10 "inputs read but owned elsewhere"): change
the privilege level, `PCE` and the halted flag, stand for the instructions that are outside the spec (R5) by
setting the interface registers, the program counter or a byte of memory, and take a core to a handler
(R312, R318). -/
inductive EnvMove
  /-- The core's current privilege level becomes `l` (R321). -/
  | setCpl (c : CoreId) (l : BitVec 2)
  /-- The core is halted or woken (R331). -/
  | setHalted (c : CoreId) (h : Bool)
  /-- `PCE` changes (R112). -/
  | setPce (c : CoreId) (b : Bool)
  /-- An instruction outside the spec has written an interface register (R21, D26). -/
  | setReg (c : CoreId) (r : IfReg) (v : Reg)
  /-- A control transfer outside the spec (R22, D3). -/
  | setPc (c : CoreId) (a : Addr)
  /-- The exception mechanism or an interrupt takes the core to a handler (R312, R318). -/
  | deliver (c : CoreId) (handler : Addr) (l : BitVec 2)
  /-- A byte of memory is written by something outside the PMU (R60, R5). -/
  | store (a : Addr) (b : Byte)
deriving DecidableEq, Repr, Inhabited

/-- Which agent moves next (R8, R75). -/
inductive Turn
  /-- One step of the instruction stream of core `c`. -/
  | instr (c : CoreId)
  /-- `tick(c)`: one step of the counter logic of core `c` (R130). -/
  | tick (c : CoreId)
  /-- One move of the environment. -/
  | env (m : EnvMove)
deriving DecidableEq, Repr, Inhabited

/-- The parameters of the machine at hand (R7) but for its `eventSet`, which at reset is the spec's default
(`Machine.State.reset`). No body: nothing can be proved of its value. -/
opaque Config.part : Part

/-- `EventOracle(core, tick, es, um)` of R9 before the two limits R9 and R133 put on it (which
`Machine.eventCount` applies): the number of occurrences in that clock. No body: "The accuracy of the counters is
not ensured". -/
opaque Config.eventOracle : CoreId → Nat → BitVec 8 → BitVec 8 → Occ

/-- The agent that moves when nothing has been arranged: steps "interleave in any order" (R8, R75). -/
opaque Config.freeTurn : Nat → Turn

/-- `PerfCtr[i] <- draw(0 .. 2^48-1)` of R148. -/
opaque Config.freeCtr : Nat → Count48

/-- The draw of R148 that decides whether an unspecified counter requests an interrupt. -/
opaque Config.freeIrq : Nat → Bool

/-- The draw of R148 that decides whether an unspecified counter toggles its pin. -/
opaque Config.freePin : Nat → Bool

/-- `Prev[i] <- draw({0,1})` of R148. -/
opaque Config.freePrev : Nat → Bool

/-- The quotient of a count by a count of 0, for which the spec states no value (R249, R263, R264, R301, R302,
R304; log entry 25). -/
opaque Config.freeRatio : ℚ → ℚ

end Sys2Proof
end

