-- ==== Sys2Proof/Syntax.lean ====
section
/-! DEFINITION. The instructions: one constructor per row of spec/opcode_table.json. The three access
instructions carry no operand (their operands are implicit, spec/30_encoding.md R90); an event row is a
PERFEVTSEL word whose EVENT_SELECT names the event, "the 'opcode' of the counter logic", with the other fields
of the word as its operands (R83, R86). -/

namespace Sys2Proof

/-- The instruction stream executes `wrmsr`, `rdmsr` and `rdpmc` (R100); the counter logic executes the event
words, one counter at a time (spec/41_counting.md R148). -/
inductive Instr
  /-- WRMSR (R105). -/
  | wrmsr
  /-- RDMSR (R102). -/
  | rdmsr
  /-- RDPMC (R110). -/
  | rdpmc
  /-- Event 00h, Dispatched FPU Operations (R201). -/
  | evt00 (f : EvtCtl)
  /-- Event 01h, Cycles with no FPU Ops Retired (R202). -/
  | evt01 (f : EvtCtl)
  /-- Event 02h, Dispatched Fast Flag FPU Operations (R203). -/
  | evt02 (f : EvtCtl)
  /-- Event 20h, Segment Register Loads (R204). -/
  | evt20 (f : EvtCtl)
  /-- Event 21h, Pipeline Restart Due to Self-Modifying Code (R205). -/
  | evt21 (f : EvtCtl)
  /-- Event 22h, Pipeline Restart Due to Probe Hit (R206). -/
  | evt22 (f : EvtCtl)
  /-- Event 23h, LS Buffer 2 Full (R207). -/
  | evt23 (f : EvtCtl)
  /-- Event 24h, Locked Operations (R208). -/
  | evt24 (f : EvtCtl)
  /-- Event 26h, Retired CLFLUSH Instructions (R247). -/
  | evt26 (f : EvtCtl)
  /-- Event 27h, Retired CPUID Instructions (R248). -/
  | evt27 (f : EvtCtl)
  /-- Event 40h, Data Cache Accesses (R210). -/
  | evt40 (f : EvtCtl)
  /-- Event 41h, Data Cache Misses (R211). -/
  | evt41 (f : EvtCtl)
  /-- Event 42h, Data Cache Refills from L2 or System (R212). -/
  | evt42 (f : EvtCtl)
  /-- Event 43h, Data Cache Refills from System (R213). -/
  | evt43 (f : EvtCtl)
  /-- Event 44h, Data Cache Lines Evicted (R214). -/
  | evt44 (f : EvtCtl)
  /-- Event 45h, L1 DTLB Miss and L2 DTLB Hit (R215). -/
  | evt45 (f : EvtCtl)
  /-- Event 46h, L1 DTLB and L2 DTLB Miss (R216). -/
  | evt46 (f : EvtCtl)
  /-- Event 47h, Misaligned Accesses (R217). -/
  | evt47 (f : EvtCtl)
  /-- Event 48h, Microarchitectural Late Cancel of an Access (R218). -/
  | evt48 (f : EvtCtl)
  /-- Event 49h, Microarchitectural Early Cancel of an Access (R219). -/
  | evt49 (f : EvtCtl)
  /-- Event 4Ah, Single-bit ECC Errors Recorded by Scrubber (R220). -/
  | evt4A (f : EvtCtl)
  /-- Event 4Bh, Prefetch Instructions Dispatched (R221). -/
  | evt4B (f : EvtCtl)
  /-- Event 4Ch, DCACHE Misses by Locked Instructions (R222). -/
  | evt4C (f : EvtCtl)
  /-- Event 65h, Memory Requests by Type (R209). -/
  | evt65 (f : EvtCtl)
  /-- Event 67h, Data Prefetcher (R231). -/
  | evt67 (f : EvtCtl)
  /-- Event 6Ch, System Read Responses by Coherency State (R232). -/
  | evt6C (f : EvtCtl)
  /-- Event 6Dh, Quadwords Written to System (R233). -/
  | evt6D (f : EvtCtl)
  /-- Event 76h, CPU Clocks not Halted (R249). -/
  | evt76 (f : EvtCtl)
  /-- Event 7Dh, Requests to L2 Cache (R234). -/
  | evt7D (f : EvtCtl)
  /-- Event 7Eh, L2 Cache Misses (R235). -/
  | evt7E (f : EvtCtl)
  /-- Event 7Fh, L2 Fill/Writeback (R236). -/
  | evt7F (f : EvtCtl)
  /-- Event 80h, Instruction Cache Fetches (R237). -/
  | evt80 (f : EvtCtl)
  /-- Event 81h, Instruction Cache Misses (R238). -/
  | evt81 (f : EvtCtl)
  /-- Event 82h, Instruction Cache Refills from L2 (R239). -/
  | evt82 (f : EvtCtl)
  /-- Event 83h, Instruction Cache Refills from System (R240). -/
  | evt83 (f : EvtCtl)
  /-- Event 84h, L1 ITLB Miss, L2 ITLB Hit (R241). -/
  | evt84 (f : EvtCtl)
  /-- Event 85h, L1 ITLB Miss, L2 ITLB Miss (R242). -/
  | evt85 (f : EvtCtl)
  /-- Event 86h, Pipeline Restart Due to Instruction Stream Probe (R243). -/
  | evt86 (f : EvtCtl)
  /-- Event 87h, Instruction Fetch Stall (R244). -/
  | evt87 (f : EvtCtl)
  /-- Event 88h, Return Stack Hits (R245). -/
  | evt88 (f : EvtCtl)
  /-- Event 89h, Return Stack Overflows (R246). -/
  | evt89 (f : EvtCtl)
  /-- Event C0h, Retired Instructions (R250). -/
  | evtC0 (f : EvtCtl)
  /-- Event C1h, Retired uops (R251). -/
  | evtC1 (f : EvtCtl)
  /-- Event C2h, Retired Branch Instructions (R252). -/
  | evtC2 (f : EvtCtl)
  /-- Event C3h, Retired Mispredicted Branch Instructions (R253). -/
  | evtC3 (f : EvtCtl)
  /-- Event C4h, Retired Taken Branch Instructions (R254). -/
  | evtC4 (f : EvtCtl)
  /-- Event C5h, Retired Taken Branch Instructions Mispredicted (R255). -/
  | evtC5 (f : EvtCtl)
  /-- Event C6h, Retired Far Control Transfers (R256). -/
  | evtC6 (f : EvtCtl)
  /-- Event C7h, Retired Branch Resyncs (R257). -/
  | evtC7 (f : EvtCtl)
  /-- Event C8h, Retired Near Returns (R258). -/
  | evtC8 (f : EvtCtl)
  /-- Event C9h, Retired Near Returns Mispredicted (R259). -/
  | evtC9 (f : EvtCtl)
  /-- Event CAh, Retired Indirect Branches Mispredicted (R260). -/
  | evtCA (f : EvtCtl)
  /-- Event CBh, Retired MMX/FP Instructions (R261). -/
  | evtCB (f : EvtCtl)
  /-- Event CCh, Retired Fastpath Double op Instructions (R262). -/
  | evtCC (f : EvtCtl)
  /-- Event CDh, Interrupts-Masked Cycles (R263). -/
  | evtCD (f : EvtCtl)
  /-- Event CEh, Interrupts-Masked Cycles with Interrupt Pending (R264). -/
  | evtCE (f : EvtCtl)
  /-- Event CFh, Interrupts Taken (R265). -/
  | evtCF (f : EvtCtl)
  /-- Event D0h, Decoder Empty (R266). -/
  | evtD0 (f : EvtCtl)
  /-- Event D1h, Dispatch Stalls (R267). -/
  | evtD1 (f : EvtCtl)
  /-- Event D2h, Dispatch Stall for Branch Abort to Retire (R268). -/
  | evtD2 (f : EvtCtl)
  /-- Event D3h, Dispatch Stall for Serialization (R269). -/
  | evtD3 (f : EvtCtl)
  /-- Event D4h, Dispatch Stall for Segment Load (R270). -/
  | evtD4 (f : EvtCtl)
  /-- Event D5h, Dispatch Stall for Reorder Buffer Full (R271). -/
  | evtD5 (f : EvtCtl)
  /-- Event D6h, Dispatch Stall for Reservation Station Full (R272). -/
  | evtD6 (f : EvtCtl)
  /-- Event D7h, Dispatch Stall for FPU Full (R273). -/
  | evtD7 (f : EvtCtl)
  /-- Event D8h, Dispatch Stall for LS Full (R274). -/
  | evtD8 (f : EvtCtl)
  /-- Event D9h, Dispatch Stall Waiting for All Quiet (R275). -/
  | evtD9 (f : EvtCtl)
  /-- Event DAh, Dispatch Stall for Far Transfer or Resync to Retire (R276). -/
  | evtDA (f : EvtCtl)
  /-- Event DBh, FPU Exceptions (R277). -/
  | evtDB (f : EvtCtl)
  /-- Event DCh, DR0 Breakpoint Matches (R278). -/
  | evtDC (f : EvtCtl)
  /-- Event DDh, DR1 Breakpoint Matches (R279). -/
  | evtDD (f : EvtCtl)
  /-- Event DEh, DR2 Breakpoint Matches (R280). -/
  | evtDE (f : EvtCtl)
  /-- Event DFh, DR3 Breakpoint Matches (R281). -/
  | evtDF (f : EvtCtl)
  /-- Event E0h, DRAM Accesses (R291). -/
  | evtE0 (f : EvtCtl)
  /-- Event E1h, Memory Controller Page Table Overflows (R292). -/
  | evtE1 (f : EvtCtl)
  /-- Event E3h, Memory Controller Turnarounds (R293). -/
  | evtE3 (f : EvtCtl)
  /-- Event E4h, Memory Controller Bypass Counter Saturation (R294). -/
  | evtE4 (f : EvtCtl)
  /-- Event E5h, Sized Blocks (R295). -/
  | evtE5 (f : EvtCtl)
  /-- Event E8h, ECC Errors (R296). -/
  | evtE8 (f : EvtCtl)
  /-- Event E9h, CPU/IO Requests to Memory/IO (R298). -/
  | evtE9 (f : EvtCtl)
  /-- Event EAh, Cache Block Commands (R299). -/
  | evtEA (f : EvtCtl)
  /-- Event EBh, Sized Commands (R300). -/
  | evtEB (f : EvtCtl)
  /-- Event ECh, Probe Responses and Upstream Requests (R301). -/
  | evtEC (f : EvtCtl)
  /-- Event EEh, GART Events (R302). -/
  | evtEE (f : EvtCtl)
  /-- Event F6h, HyperTransport Link 0 Transmit Bandwidth (R304). -/
  | evtF6 (f : EvtCtl)
  /-- Event F7h, HyperTransport Link 1 Transmit Bandwidth (R305). -/
  | evtF7 (f : EvtCtl)
  /-- Event F8h, HyperTransport Link 2 Transmit Bandwidth (R306). -/
  | evtF8 (f : EvtCtl)
deriving DecidableEq, Repr

end Sys2Proof
end

