-- ==== Sys2Proof/Decode.lean ====
section
/-! DEFINITION. Decoding, total on any bytes and on any PERFEVTSEL word, rejecting by name, and after it the
encoder, both from spec/30_encoding.md: R90 (the access instructions), R92 (the `mov` of the spec's programs),
R31, R32, R81, R83, R86 and R87 (the PERFEVTSEL words). -/

namespace Sys2Proof

/-- Why a decoder answers no instruction. -/
inductive DecodeError
  /-- The bytes end inside an instruction. -/
  | truncated
  /-- A first byte that starts no instruction of the spec: another AMD64 instruction (R5) or a prefixed form (R91). -/
  | notInSpec (b : Byte)
  /-- A second byte after the escape 0Fh that is none of the three opcodes of R90. -/
  | notInSpec0F (b : Byte)
  /-- An EVENT_SELECT value that section 10.2.1 does not list (R87). -/
  | reservedEvent (es : BitVec 8)
deriving DecidableEq, Repr

/-- The two kinds of code of R80 and R90: bytes in memory, or a 64-bit PERFEVTSEL word. -/
inductive Code
  | bytes (bs : List Byte)
  | evtsel (w : MsrValue)
deriving DecidableEq, Repr

/-- The EVENT_SELECT field (R32, R33). -/
def eventSelectOf (w : SelWord) : BitVec 8 := w.extractLsb' 0 8

/-- The fields of a stored PERFEVTSEL word beside EVENT_SELECT (R32). -/
def ctlOf (w : SelWord) : EvtCtl where
  unitMask := w.extractLsb' 8 8
  usr := w.getLsbD 16
  os := w.getLsbD 17
  e := w.getLsbD 18
  pc := w.getLsbD 19
  int := w.getLsbD 20
  sbz := w.getLsbD 21
  en := w.getLsbD 22
  inv := w.getLsbD 23
  cntMask := w.extractLsb' 24 8

/-- The event map as the decoder reads it (R86): EVENT_SELECT and the instruction it selects. -/
def eventRows : List (BitVec 8 × (EvtCtl → Instr)) :=
  [
   (0x00, .evt00),
   (0x01, .evt01),
   (0x02, .evt02),
   (0x20, .evt20),
   (0x21, .evt21),
   (0x22, .evt22),
   (0x23, .evt23),
   (0x24, .evt24),
   (0x26, .evt26),
   (0x27, .evt27),
   (0x40, .evt40),
   (0x41, .evt41),
   (0x42, .evt42),
   (0x43, .evt43),
   (0x44, .evt44),
   (0x45, .evt45),
   (0x46, .evt46),
   (0x47, .evt47),
   (0x48, .evt48),
   (0x49, .evt49),
   (0x4A, .evt4A),
   (0x4B, .evt4B),
   (0x4C, .evt4C),
   (0x65, .evt65),
   (0x67, .evt67),
   (0x6C, .evt6C),
   (0x6D, .evt6D),
   (0x76, .evt76),
   (0x7D, .evt7D),
   (0x7E, .evt7E),
   (0x7F, .evt7F),
   (0x80, .evt80),
   (0x81, .evt81),
   (0x82, .evt82),
   (0x83, .evt83),
   (0x84, .evt84),
   (0x85, .evt85),
   (0x86, .evt86),
   (0x87, .evt87),
   (0x88, .evt88),
   (0x89, .evt89),
   (0xC0, .evtC0),
   (0xC1, .evtC1),
   (0xC2, .evtC2),
   (0xC3, .evtC3),
   (0xC4, .evtC4),
   (0xC5, .evtC5),
   (0xC6, .evtC6),
   (0xC7, .evtC7),
   (0xC8, .evtC8),
   (0xC9, .evtC9),
   (0xCA, .evtCA),
   (0xCB, .evtCB),
   (0xCC, .evtCC),
   (0xCD, .evtCD),
   (0xCE, .evtCE),
   (0xCF, .evtCF),
   (0xD0, .evtD0),
   (0xD1, .evtD1),
   (0xD2, .evtD2),
   (0xD3, .evtD3),
   (0xD4, .evtD4),
   (0xD5, .evtD5),
   (0xD6, .evtD6),
   (0xD7, .evtD7),
   (0xD8, .evtD8),
   (0xD9, .evtD9),
   (0xDA, .evtDA),
   (0xDB, .evtDB),
   (0xDC, .evtDC),
   (0xDD, .evtDD),
   (0xDE, .evtDE),
   (0xDF, .evtDF),
   (0xE0, .evtE0),
   (0xE1, .evtE1),
   (0xE3, .evtE3),
   (0xE4, .evtE4),
   (0xE5, .evtE5),
   (0xE8, .evtE8),
   (0xE9, .evtE9),
   (0xEA, .evtEA),
   (0xEB, .evtEB),
   (0xEC, .evtEC),
   (0xEE, .evtEE),
   (0xF6, .evtF6),
   (0xF7, .evtF7),
   (0xF8, .evtF8)]

/-- The row of the event map with this EVENT_SELECT (R83). -/
def eventRow (es : BitVec 8) : Option (EvtCtl → Instr) :=
  (eventRows.find? (fun r => r.1 == es)).map (·.2)

/-- Decoding a stored PERFEVTSEL word (R83): look EVENT_SELECT up, reject a reserved one by name (R87). -/
def decodeSel (w : SelWord) : Except DecodeError Instr :=
  match eventRow (eventSelectOf w) with
  | some mk => .ok (mk (ctlOf w))
  | none => .error (.reservedEvent (eventSelectOf w))

/-- Decoding an access instruction: byte 0 is 0Fh, byte 1 the opcode (R90). The bytes after it are left over. -/
def decodeAccess : List Byte → Except DecodeError (Instr × List Byte)
  | [] => .error .truncated
  | b :: rest =>
    if b = 0x0F then
      match rest with
      | [] => .error .truncated
      | op :: rest' =>
        if op = 0x30 then .ok (.wrmsr, rest')
        else if op = 0x32 then .ok (.rdmsr, rest')
        else if op = 0x33 then .ok (.rdpmc, rest')
        else .error (.notInSpec0F op)
    else .error (.notInSpec b)

/-- Decoding one instruction: exactly the two bytes of an access instruction, or a PERFEVTSEL word, whose bits 63–32
are dropped (R44). -/
def decode : Code → Except DecodeError Instr
  | .bytes bs =>
    match decodeAccess bs with
    | .ok (i, []) => .ok i
    | .ok (_, b :: _) => .error (.notInSpec b)
    | .error e => .error e
  | .evtsel w => decodeSel (w.setWidth 32)

/-- What the instruction stream of a core fetches: an access instruction, or the `mov r32, imm32` with which the
programs of spec/95_test_vectors.md load the implicit operands (R92). -/
inductive Fetched
  | access (i : Instr)
  | movImm (r : IfReg) (v : Reg)
deriving DecidableEq, Repr

/-- The register that a `mov r32, imm32` opcode loads: B8h EAX, B9h ECX, BAh EDX (R92). -/
def movTarget (b : Byte) : Option IfReg :=
  if b = 0xB8 then some .eax
  else if b = 0xB9 then some .ecx
  else if b = 0xBA then some .edx
  else none

/-- Decoding at the program counter of a core: a `mov` with its four immediate bytes, least significant first
(R92), or an access instruction (R90). -/
def decodeStream : List Byte → Except DecodeError Fetched
  | [] => .error .truncated
  | b :: rest =>
    match movTarget b with
    | some r =>
      match rest with
      | b0 :: b1 :: b2 :: b3 :: _ => .ok (.movImm r (b3 ++ b2 ++ b1 ++ b0))
      | _ => .error .truncated
    | none =>
      match decodeAccess (b :: rest) with
      | .ok (i, _) => .ok (.access i)
      | .error e => .error e

/-- Assembling the stored 32 bits of a PERFEVTSEL word (R31, R81). -/
def EvtCtl.word (es : BitVec 8) (f : EvtCtl) : SelWord :=
  f.cntMask ++ BitVec.ofBool f.inv ++ BitVec.ofBool f.en ++ BitVec.ofBool f.sbz ++ BitVec.ofBool f.int ++
    BitVec.ofBool f.pc ++ BitVec.ofBool f.e ++ BitVec.ofBool f.os ++ BitVec.ofBool f.usr ++ f.unitMask ++ es

/-- The code of an instruction: two bytes (R90), or the 64-bit PERFEVTSEL word with bits 63–32 zero (R81). -/
def encode : Instr → Code
  | .wrmsr => .bytes [0x0F, 0x30]
  | .rdmsr => .bytes [0x0F, 0x32]
  | .rdpmc => .bytes [0x0F, 0x33]
  | .evt00 f => .evtsel ((EvtCtl.word 0x00 f).setWidth 64)
  | .evt01 f => .evtsel ((EvtCtl.word 0x01 f).setWidth 64)
  | .evt02 f => .evtsel ((EvtCtl.word 0x02 f).setWidth 64)
  | .evt20 f => .evtsel ((EvtCtl.word 0x20 f).setWidth 64)
  | .evt21 f => .evtsel ((EvtCtl.word 0x21 f).setWidth 64)
  | .evt22 f => .evtsel ((EvtCtl.word 0x22 f).setWidth 64)
  | .evt23 f => .evtsel ((EvtCtl.word 0x23 f).setWidth 64)
  | .evt24 f => .evtsel ((EvtCtl.word 0x24 f).setWidth 64)
  | .evt26 f => .evtsel ((EvtCtl.word 0x26 f).setWidth 64)
  | .evt27 f => .evtsel ((EvtCtl.word 0x27 f).setWidth 64)
  | .evt40 f => .evtsel ((EvtCtl.word 0x40 f).setWidth 64)
  | .evt41 f => .evtsel ((EvtCtl.word 0x41 f).setWidth 64)
  | .evt42 f => .evtsel ((EvtCtl.word 0x42 f).setWidth 64)
  | .evt43 f => .evtsel ((EvtCtl.word 0x43 f).setWidth 64)
  | .evt44 f => .evtsel ((EvtCtl.word 0x44 f).setWidth 64)
  | .evt45 f => .evtsel ((EvtCtl.word 0x45 f).setWidth 64)
  | .evt46 f => .evtsel ((EvtCtl.word 0x46 f).setWidth 64)
  | .evt47 f => .evtsel ((EvtCtl.word 0x47 f).setWidth 64)
  | .evt48 f => .evtsel ((EvtCtl.word 0x48 f).setWidth 64)
  | .evt49 f => .evtsel ((EvtCtl.word 0x49 f).setWidth 64)
  | .evt4A f => .evtsel ((EvtCtl.word 0x4A f).setWidth 64)
  | .evt4B f => .evtsel ((EvtCtl.word 0x4B f).setWidth 64)
  | .evt4C f => .evtsel ((EvtCtl.word 0x4C f).setWidth 64)
  | .evt65 f => .evtsel ((EvtCtl.word 0x65 f).setWidth 64)
  | .evt67 f => .evtsel ((EvtCtl.word 0x67 f).setWidth 64)
  | .evt6C f => .evtsel ((EvtCtl.word 0x6C f).setWidth 64)
  | .evt6D f => .evtsel ((EvtCtl.word 0x6D f).setWidth 64)
  | .evt76 f => .evtsel ((EvtCtl.word 0x76 f).setWidth 64)
  | .evt7D f => .evtsel ((EvtCtl.word 0x7D f).setWidth 64)
  | .evt7E f => .evtsel ((EvtCtl.word 0x7E f).setWidth 64)
  | .evt7F f => .evtsel ((EvtCtl.word 0x7F f).setWidth 64)
  | .evt80 f => .evtsel ((EvtCtl.word 0x80 f).setWidth 64)
  | .evt81 f => .evtsel ((EvtCtl.word 0x81 f).setWidth 64)
  | .evt82 f => .evtsel ((EvtCtl.word 0x82 f).setWidth 64)
  | .evt83 f => .evtsel ((EvtCtl.word 0x83 f).setWidth 64)
  | .evt84 f => .evtsel ((EvtCtl.word 0x84 f).setWidth 64)
  | .evt85 f => .evtsel ((EvtCtl.word 0x85 f).setWidth 64)
  | .evt86 f => .evtsel ((EvtCtl.word 0x86 f).setWidth 64)
  | .evt87 f => .evtsel ((EvtCtl.word 0x87 f).setWidth 64)
  | .evt88 f => .evtsel ((EvtCtl.word 0x88 f).setWidth 64)
  | .evt89 f => .evtsel ((EvtCtl.word 0x89 f).setWidth 64)
  | .evtC0 f => .evtsel ((EvtCtl.word 0xC0 f).setWidth 64)
  | .evtC1 f => .evtsel ((EvtCtl.word 0xC1 f).setWidth 64)
  | .evtC2 f => .evtsel ((EvtCtl.word 0xC2 f).setWidth 64)
  | .evtC3 f => .evtsel ((EvtCtl.word 0xC3 f).setWidth 64)
  | .evtC4 f => .evtsel ((EvtCtl.word 0xC4 f).setWidth 64)
  | .evtC5 f => .evtsel ((EvtCtl.word 0xC5 f).setWidth 64)
  | .evtC6 f => .evtsel ((EvtCtl.word 0xC6 f).setWidth 64)
  | .evtC7 f => .evtsel ((EvtCtl.word 0xC7 f).setWidth 64)
  | .evtC8 f => .evtsel ((EvtCtl.word 0xC8 f).setWidth 64)
  | .evtC9 f => .evtsel ((EvtCtl.word 0xC9 f).setWidth 64)
  | .evtCA f => .evtsel ((EvtCtl.word 0xCA f).setWidth 64)
  | .evtCB f => .evtsel ((EvtCtl.word 0xCB f).setWidth 64)
  | .evtCC f => .evtsel ((EvtCtl.word 0xCC f).setWidth 64)
  | .evtCD f => .evtsel ((EvtCtl.word 0xCD f).setWidth 64)
  | .evtCE f => .evtsel ((EvtCtl.word 0xCE f).setWidth 64)
  | .evtCF f => .evtsel ((EvtCtl.word 0xCF f).setWidth 64)
  | .evtD0 f => .evtsel ((EvtCtl.word 0xD0 f).setWidth 64)
  | .evtD1 f => .evtsel ((EvtCtl.word 0xD1 f).setWidth 64)
  | .evtD2 f => .evtsel ((EvtCtl.word 0xD2 f).setWidth 64)
  | .evtD3 f => .evtsel ((EvtCtl.word 0xD3 f).setWidth 64)
  | .evtD4 f => .evtsel ((EvtCtl.word 0xD4 f).setWidth 64)
  | .evtD5 f => .evtsel ((EvtCtl.word 0xD5 f).setWidth 64)
  | .evtD6 f => .evtsel ((EvtCtl.word 0xD6 f).setWidth 64)
  | .evtD7 f => .evtsel ((EvtCtl.word 0xD7 f).setWidth 64)
  | .evtD8 f => .evtsel ((EvtCtl.word 0xD8 f).setWidth 64)
  | .evtD9 f => .evtsel ((EvtCtl.word 0xD9 f).setWidth 64)
  | .evtDA f => .evtsel ((EvtCtl.word 0xDA f).setWidth 64)
  | .evtDB f => .evtsel ((EvtCtl.word 0xDB f).setWidth 64)
  | .evtDC f => .evtsel ((EvtCtl.word 0xDC f).setWidth 64)
  | .evtDD f => .evtsel ((EvtCtl.word 0xDD f).setWidth 64)
  | .evtDE f => .evtsel ((EvtCtl.word 0xDE f).setWidth 64)
  | .evtDF f => .evtsel ((EvtCtl.word 0xDF f).setWidth 64)
  | .evtE0 f => .evtsel ((EvtCtl.word 0xE0 f).setWidth 64)
  | .evtE1 f => .evtsel ((EvtCtl.word 0xE1 f).setWidth 64)
  | .evtE3 f => .evtsel ((EvtCtl.word 0xE3 f).setWidth 64)
  | .evtE4 f => .evtsel ((EvtCtl.word 0xE4 f).setWidth 64)
  | .evtE5 f => .evtsel ((EvtCtl.word 0xE5 f).setWidth 64)
  | .evtE8 f => .evtsel ((EvtCtl.word 0xE8 f).setWidth 64)
  | .evtE9 f => .evtsel ((EvtCtl.word 0xE9 f).setWidth 64)
  | .evtEA f => .evtsel ((EvtCtl.word 0xEA f).setWidth 64)
  | .evtEB f => .evtsel ((EvtCtl.word 0xEB f).setWidth 64)
  | .evtEC f => .evtsel ((EvtCtl.word 0xEC f).setWidth 64)
  | .evtEE f => .evtsel ((EvtCtl.word 0xEE f).setWidth 64)
  | .evtF6 f => .evtsel ((EvtCtl.word 0xF6 f).setWidth 64)
  | .evtF7 f => .evtsel ((EvtCtl.word 0xF7 f).setWidth 64)
  | .evtF8 f => .evtsel ((EvtCtl.word 0xF8 f).setWidth 64)

/-- The code that a number of spec/opcode_table.json stands for: a 16-bit number is two bytes, byte 0 in bits 15–8
(R90); any other width is a PERFEVTSEL word, bit 0 its least significant bit. -/
def tableCode (nbits w : Nat) : Code :=
  if nbits = 16 then .bytes [BitVec.ofNat 8 (w / 256), BitVec.ofNat 8 w]
  else .evtsel (BitVec.ofNat 64 w)

/-- The instruction the decoder reads from the `nbits` bits `w` of a table row. -/
def decodeTableWord (nbits w : Nat) : Option Instr :=
  match decode (tableCode nbits w) with
  | .ok i => some i
  | .error _ => none

end Sys2Proof
end

