-- ==== Sys2Proof/Machine/EventTypes.lean ====
section
/-! DEFINITION. What the spec says of one selectable event (spec/42_events_fpu_ls_dc.md R200), which selections are
reserved (spec/30_encoding.md R87, R88; spec/41_counting.md R148) and which number the oracle's value gives for a
selection (spec/00_scope.md R9, spec/41_counting.md R133). -/

namespace Sys2Proof.Machine

/-- Kind of an event (R200): what the oracle value counts. -/
inductive EventKind
  /-- The number of occurrences in the clock, 0 to 3. -/
  | occurrences
  /-- 1 in each clock the condition holds, else 0. -/
  | cycles
  /-- By sub-event: the listed masks select one condition, every other mask occurrences (event 24h, R208). -/
  | mixed (cycleMasks : List (BitVec 8))
  /-- The source gives no description (R218, R219, R262, R294). -/
  | notStated
deriving DecidableEq, Repr

/-- Label of an event, as the source gives it (R152, R200). -/
inductive EventLabel
  | unlabelled
  | speculative
  | retired
  /-- "may include some amount of speculative activity" (R235). -/
  | partlySpeculative
  /-- One sub-event is the speculative phase, one the non-speculative phase (R208). -/
  | byPhase
deriving DecidableEq, Repr

/-- One row of a UNIT_MASK table, with the earliest revision that defines it (R297). -/
structure SubEvent where
  bit : BitVec 8
  meaning : String
  minRev : Rev
deriving DecidableEq, Repr

/-- One event of the event map (R86, R200). An empty table is "no UNIT_MASK table". -/
structure EventInfo where
  select : BitVec 8
  name : String
  kind : EventKind
  label : EventLabel
  minRev : Rev
  table : List SubEvent
deriving DecidableEq, Repr

/-- `need <= rev` in the order `preD < D < E` of R7; every revision has what needs `preD`. -/
def revAtLeast (need rev : Rev) : Bool :=
  match need with
  | .preD => true
  | .D => rev != .preD
  | .E => rev == .E

/-- The pairs that the event's own rule defines (R7 `EventSet`, R88, R297). -/
def EventInfo.pairs (info : EventInfo) : DefinedEvent where
  select := info.select
  minRev := info.minRev
  bits := info.table.map fun u => (u.bit, u.minRev)

/-- An event that the event map of R86 does not list: the spec gives no description, so its count is any number of
occurrences. It counts only on a part whose event set defines it (D32; log entry 26). -/
def unlistedEvent (es : BitVec 8) : EventInfo where
  select := es
  name := "not listed"
  kind := .notStated
  label := .unlabelled
  minRev := .preD
  table := []

/-- The entry of a part's event set for an EVENT_SELECT, if the part defines it (R7 `EventSet`). -/
def findEvent (set : EventSet) (es : BitVec 8) : Option DefinedEvent := set.find? (fun e => e.select == es)

/-- The UNIT_MASK bits that the event's table defines on revision `rev` (R88 (d), R297). -/
def definedBits (rev : Rev) (e : DefinedEvent) : BitVec 8 :=
  e.bits.foldr (fun u acc => if revAtLeast u.2 rev then u.1 ||| acc else acc) 0

/-- A UNIT_MASK bit is set that the event's table does not define for `rev`; an event with no table allows
every UNIT_MASK (R88 (d)). -/
def unitMaskReserved (rev : Rev) (e : DefinedEvent) (um : BitVec 8) : Bool :=
  !e.bits.isEmpty && (um &&& ~~~(definedBits rev e)) != 0

/-- The part does not define the EVENT_SELECT, or only from a later revision on (R87, R297). -/
def selectReserved (p : Part) (es : BitVec 8) : Bool :=
  match findEvent p.eventSet es with
  | some e => !revAtLeast e.minRev p.rev
  | none => true

/-- The part defines the EVENT_SELECT, but not every bit of the UNIT_MASK (R88 (d)). -/
def maskReserved (p : Part) (es um : BitVec 8) : Bool :=
  match findEvent p.eventSet es with
  | some e => unitMaskReserved p.rev e um
  | none => false

/-- CNT_MASK 4 to 255 are reserved (R43 (c), R88 (a)). -/
def cntMaskReserved (m : BitVec 8) : Bool :=
  decide (3 < m.toNat)

/-- `reserved(s)` of R148 for the word with EVENT_SELECT `es` and the fields `f` on the part `p`. -/
def reservedSel (p : Part) (es : BitVec 8) (f : EvtCtl) : Bool :=
  cntMaskReserved f.cntMask || f.sbz || selectReserved p es || maskReserved p es f.unitMask

/-- `is_nb(es)`: the Northbridge events are E0h to FFh (R290). -/
def isNb (es : BitVec 8) : Bool :=
  decide (0xE0 ≤ es.toNat)

/-- The oracle value of this selection measures one condition, so it is 0 or 1 (R9, R133, R208). -/
def isCondition (info : EventInfo) (um : BitVec 8) : Bool :=
  match info.kind with
  | .cycles => true
  | .mixed masks => masks.contains um
  | .occurrences => false
  | .notStated => false

/-- The part's UNIT_MASK table of an EVENT_SELECT has rows; without rows "the UNIT_MASK is not applicable". -/
def hasTable (p : Part) (es : BitVec 8) : Bool :=
  match findEvent p.eventSet es with
  | some e => !e.bits.isEmpty
  | none => false

/-- The UNIT_MASK the oracle is asked with: "not applicable" for an event with no table, so its value does not
depend on it (R133). -/
def oracleMask (p : Part) (es um : BitVec 8) : BitVec 8 :=
  if hasTable p es then um else 0

/-- The event has a UNIT_MASK table and `um` sets none of its bits: no sub-event is monitored (R88 (e), R133). -/
def selectsNothing (p : Part) (es um : BitVec 8) : Bool :=
  match findEvent p.eventSet es with
  | some e => !e.bits.isEmpty && (um &&& definedBits p.rev e) == 0
  | none => false

/-- `raw` of R133: the oracle's value within the limits of R9 and R133. -/
def eventCount (p : Part) (info : EventInfo) (um : BitVec 8) (raw : Occ) : Occ :=
  if selectsNothing p info.select um then 0
  else if isCondition info um && raw != 0 then 1
  else raw

/-- The validity rule of event E9h (R298): a request type, a source and a target location are selected. A mask
that breaks it is no reserved selection. -/
def e9MaskValid (u : BitVec 8) : Bool :=
  u.extractLsb' 0 4 != 0 && (u.getLsbD 7 || u.getLsbD 6) && (u.getLsbD 5 || u.getLsbD 4)

end Sys2Proof.Machine
end

