-- ==== Sys2Proof/Machine/Catalogue.lean ====
section
/-! DEFINITION. The catalogue of selectable events: the EVENT_SELECT number, name, kind, label, UNIT_MASK
table and revision limit of each of the 87 events, from the event rules R201 to R306 (spec/42_events_fpu_ls_dc.md,
spec/43_events_l2_ic_ex.md, spec/44_events_nb.md); what each event observes is the source's text in its docstring,
which a proof may use only as a named hypothesis on the oracle (R149, R200). -/

namespace Sys2Proof.Machine

/-- Event 00h, Dispatched FPU Operations (R201). "The number of operations (uops) dispatched to the FPU execution
pipelines. This event reflects how busy the FPU pipelines are. This includes all operations done by x87, MMX and
SSE instructions, including moves. Each increment represents a one-cycle dispatch event; packed 128-bit SSE
operations count as two ops; scalar operations count as one. Speculative. (See also event CBh)." "Note: Since
this event includes non-numeric operations it is not suitable for measuring MFLOPs." -/
def evt00 : EventInfo where
  select := 0x00
  name := "Dispatched FPU Operations"
  kind := .occurrences
  label := .speculative
  minRev := .preD
  table :=
    [⟨0x01, "Add pipe ops", .preD⟩,
     ⟨0x02, "Multiply pipe ops", .preD⟩,
     ⟨0x04, "Store pipe ops", .preD⟩,
     ⟨0x08, "Add pipe load ops", .preD⟩,
     ⟨0x10, "Multiply pipe load ops", .preD⟩,
     ⟨0x20, "Store pipe load ops", .preD⟩]

/-- Event 01h, Cycles with no FPU Ops Retired (R202). "The number of cycles in which no FPU operations were retired.
Invert this (set the Invert control bit in the event select MSR) to count cycles in which at least one FPU
operation was retired." -/
def evt01 : EventInfo where
  select := 0x01
  name := "Cycles with no FPU Ops Retired"
  kind := .cycles
  label := .retired
  minRev := .preD
  table := []

/-- Event 02h, Dispatched Fast Flag FPU Operations (R203). "The number of FPU operations that use the fast flag
interface (e.g. FCOMI, COMISS, COMISD, UCOMISS, UCOMISD). Speculative." -/
def evt02 : EventInfo where
  select := 0x02
  name := "Dispatched Fast Flag FPU Operations"
  kind := .occurrences
  label := .speculative
  minRev := .preD
  table := []

/-- Event 20h, Segment Register Loads (R204). "The number of segment register loads performed." -/
def evt20 : EventInfo where
  select := 0x20
  name := "Segment Register Loads"
  kind := .occurrences
  label := .unlabelled
  minRev := .preD
  table :=
    [⟨0x01, "ES", .preD⟩,
     ⟨0x02, "CS", .preD⟩,
     ⟨0x04, "SS", .preD⟩,
     ⟨0x08, "DS", .preD⟩,
     ⟨0x10, "FS", .preD⟩,
     ⟨0x20, "GS", .preD⟩,
     ⟨0x40, "HS", .preD⟩]

/-- Event 21h, Pipeline Restart Due to Self-Modifying Code (R205). "The number of pipeline restarts that were caused
by self-modifying code (a store that hits any instruction that's been fetched for execution beyond the
instruction doing the store)." -/
def evt21 : EventInfo where
  select := 0x21
  name := "Pipeline Restart Due to Self-Modifying Code"
  kind := .occurrences
  label := .unlabelled
  minRev := .preD
  table := []

/-- Event 22h, Pipeline Restart Due to Probe Hit (R206). "The number of pipeline restarts caused by an invalidating
probe hitting on a speculative out-of-order load." -/
def evt22 : EventInfo where
  select := 0x22
  name := "Pipeline Restart Due to Probe Hit"
  kind := .occurrences
  label := .unlabelled
  minRev := .preD
  table := []

/-- Event 23h, LS Buffer 2 Full (R207). "The number of cycles that the LS2 buffer is full. This buffer holds stores
waiting to retire as well as requests that missed the data cache and are waiting on a refill. This condition
will stall further data cache accesses, although such stalls may be overlapped to some extent by independent
instruction execution." -/
def evt23 : EventInfo where
  select := 0x23
  name := "LS Buffer 2 Full"
  kind := .cycles
  label := .unlabelled
  minRev := .preD
  table := []

/-- Event 24h, Locked Operations (R208). "This event covers locked operations performed and their execution time.
The execution time represented by the cycle counts is typically overlapped to a large extent with other
instructions. The *non-speculative cycles* event is suitable for event-based profiling of lock operations that
tend to miss in the cache." -/
def evt24 : EventInfo where
  select := 0x24
  name := "Locked Operations"
  kind := .mixed [0x02, 0x04]
  label := .byPhase
  minRev := .preD
  table :=
    [⟨0x01, "The number of locked instructions executed", .preD⟩,
     ⟨0x02, "The number of cycles spent in speculative phase", .preD⟩,
     ⟨0x04, "The number of cycles spent in non-speculative phase (including cache miss penalty)", .preD⟩]

/-- Event 26h, Retired CLFLUSH Instructions (R247). "The number of CLFLUSH instructions retired." -/
def evt26 : EventInfo where
  select := 0x26
  name := "Retired CLFLUSH Instructions"
  kind := .occurrences
  label := .retired
  minRev := .preD
  table := []

/-- Event 27h, Retired CPUID Instructions (R248). "The number of CPUID instructions retired." -/
def evt27 : EventInfo where
  select := 0x27
  name := "Retired CPUID Instructions"
  kind := .occurrences
  label := .retired
  minRev := .preD
  table := []

/-- Event 40h, Data Cache Accesses (R210). "The number of accesses to the data cache for load and store references.
This may include certain microcode scratchpad accesses, although these are generally rare. Each increment
represents an eight-byte access, although the instruction may only be accessing a portion of that. Speculative." -/
def evt40 : EventInfo where
  select := 0x40
  name := "Data Cache Accesses"
  kind := .occurrences
  label := .speculative
  minRev := .preD
  table := []

/-- Event 41h, Data Cache Misses (R211). "The number of data cache references which missed in the data cache.
Speculative." "Except in the case of streaming stores, only the first miss for a given line is included - access
attempts by other instructions while the refill is still pending are not included in this event. So in the
absence of streaming stores, each event reflects one 64-byte cache line refill, and counts of this event are the
same as, or very close to, the combined count for event 42h." "Streaming stores however will cause this event
for every such store, since the target memory is not refilled into the cache. Hence this event should not be
used as an indication of data cache refill activity - event 42h should be used for such measurements. (See event
65h for an indication of streaming store activity.) A large difference between events 41h (with all UNIT_MASK
bits set) and 42h would be due mainly to streaming store activity." -/
def evt41 : EventInfo where
  select := 0x41
  name := "Data Cache Misses"
  kind := .occurrences
  label := .speculative
  minRev := .preD
  table := []

/-- Event 42h, Data Cache Refills from L2 or System (R212). "The number of data cache refills satisfied from the L2
cache (and/or the system), per the UNIT_MASK. UNIT_MASK bits 4:1 allow a breakdown of refills from the L2 by
coherency state. UNIT_MASK bit 0 reflects refills which missed in the L2, and provides the same measure as the
combined sub-events of event 43h. Each increment reflects a 64-byte transfer. Speculative." -/
def evt42 : EventInfo where
  select := 0x42
  name := "Data Cache Refills from L2 or System"
  kind := .occurrences
  label := .speculative
  minRev := .preD
  table :=
    [⟨0x01, "Refill from System", .preD⟩,
     ⟨0x02, "Shared-state line from L2", .preD⟩,
     ⟨0x04, "Exclusive-state line from L2", .preD⟩,
     ⟨0x08, "Owned-state line from L2", .preD⟩,
     ⟨0x10, "Modified-state line from L2", .preD⟩]

/-- Event 43h, Data Cache Refills from System (R213). "The number of L1 cache refills satisfied from the system
(system memory or another cache), as opposed to the L2. The UNIT_MASK selects lines in one or more specific
coherency states. Each increment reflects a 64-byte transfer. Speculative." -/
def evt43 : EventInfo where
  select := 0x43
  name := "Data Cache Refills from System"
  kind := .occurrences
  label := .speculative
  minRev := .preD
  table :=
    [⟨0x01, "Invalid", .preD⟩,
     ⟨0x02, "Shared", .preD⟩,
     ⟨0x04, "Exclusive", .preD⟩,
     ⟨0x08, "Owned", .preD⟩,
     ⟨0x10, "Modified", .preD⟩]

/-- Event 44h, Data Cache Lines Evicted (R214). "The number of L1 data cache lines written to the L2 cache or system
memory, having been displaced by L1 refills. The UNIT_MASK may be used to count only victims in specific
coherency states. Each increment represents a 64-byte transfer. Speculative." "In most cases, L1 victims are
moved to the L2 cache, displacing an older cache line there. Lines brought into the data cache by PrefetchNTA
instructions, however, are evicted directly to system memory (if dirty) or invalidated (if clean). There is no
provision for measuring this component by itself. The Invalid case (UNIT_MASK value 01h) reflects the
replacement of lines that would have been invalidated by probes for write operations from another processor or
DMA activity." -/
def evt44 : EventInfo where
  select := 0x44
  name := "Data Cache Lines Evicted"
  kind := .occurrences
  label := .speculative
  minRev := .preD
  table :=
    [⟨0x01, "Invalid", .preD⟩,
     ⟨0x02, "Shared", .preD⟩,
     ⟨0x04, "Exclusive", .preD⟩,
     ⟨0x08, "Owned", .preD⟩,
     ⟨0x10, "Modified", .preD⟩]

/-- Event 45h, L1 DTLB Miss and L2 DTLB Hit (R215). "The number of data cache accesses that miss in the L1 DTLB and
hit in the L2 DTLB. Speculative." -/
def evt45 : EventInfo where
  select := 0x45
  name := "L1 DTLB Miss and L2 DTLB Hit"
  kind := .occurrences
  label := .speculative
  minRev := .preD
  table := []

/-- Event 46h, L1 DTLB and L2 DTLB Miss (R216). "The number of data cache accesses that miss in both the L1 and L2
DTLBs. Speculative." -/
def evt46 : EventInfo where
  select := 0x46
  name := "L1 DTLB and L2 DTLB Miss"
  kind := .occurrences
  label := .speculative
  minRev := .preD
  table := []

/-- Event 47h, Misaligned Accesses (R217). "The number of data cache accesses that are misaligned. These are
accesses which cross an eight-byte boundary. They incur an extra cache access (reflected in event 40h), and an
extra cycle of latency on reads. Speculative." -/
def evt47 : EventInfo where
  select := 0x47
  name := "Misaligned Accesses"
  kind := .occurrences
  label := .speculative
  minRev := .preD
  table := []

/-- Event 48h, Microarchitectural Late Cancel of an Access (R218). the source gives the heading only, with no
description (`91_not_in_source.md` N16). The event is defined (not reserved); nothing may be assumed of its
oracle value. -/
def evt48 : EventInfo where
  select := 0x48
  name := "Microarchitectural Late Cancel of an Access"
  kind := .notStated
  label := .unlabelled
  minRev := .preD
  table := []

/-- Event 49h, Microarchitectural Early Cancel of an Access (R219). the source gives the heading only, with no
description (`91_not_in_source.md` N16). The event is defined (not reserved); nothing may be assumed of its
oracle value. -/
def evt49 : EventInfo where
  select := 0x49
  name := "Microarchitectural Early Cancel of an Access"
  kind := .notStated
  label := .unlabelled
  minRev := .preD
  table := []

/-- Event 4Ah, Single-bit ECC Errors Recorded by Scrubber (R220). "The number of single-bit errors corrected by
either of the error detection/correction mechanisms in the data cache." -/
def evt4A : EventInfo where
  select := 0x4A
  name := "Single-bit ECC Errors Recorded by Scrubber"
  kind := .occurrences
  label := .unlabelled
  minRev := .preD
  table :=
    [⟨0x01, "Scrubber error", .preD⟩,
     ⟨0x02, "Piggyback scrubber errors", .preD⟩]

/-- Event 4Bh, Prefetch Instructions Dispatched (R221). "The number of prefetch instructions dispatched by the
decoder. Speculative. Such instructions may or may not cause a cache line transfer. Any Dcache and L2 accesses,
hits and misses by prefetch instructions are included in those types of events." -/
def evt4B : EventInfo where
  select := 0x4B
  name := "Prefetch Instructions Dispatched"
  kind := .occurrences
  label := .speculative
  minRev := .preD
  table :=
    [⟨0x01, "Load (Prefetch, PrefetchT0/T1/T2)", .preD⟩,
     ⟨0x02, "Store (PrefetchW)", .preD⟩,
     ⟨0x04, "NTA (PrefetchNTA)", .preD⟩]

/-- Event 4Ch, DCACHE Misses by Locked Instructions (R222). "The number of data cache misses incurred by locked
instructions. (The total number of locked instructions may be obtained from event 24h.)" "Such misses may be
satisfied from the L2 or system memory, but there is no provision for distinguishing between the two. When used
for event-based profiling, this event tends to occur very close to the offending instructions. (See also event
24h.) This event is also included in the basic Dcache miss event (41h)." -/
def evt4C : EventInfo where
  select := 0x4C
  name := "DCACHE Misses by Locked Instructions"
  kind := .occurrences
  label := .unlabelled
  minRev := .preD
  table :=
    [⟨0x02, "Data cache misses by locked instructions", .preD⟩]

/-- Event 65h, Memory Requests by Type (R209). "These events reflect accesses to uncacheable (UC) or write-combining
(WC) memory regions (as defined by MTRR or PAT settings) and Streaming Store activity to WB memory. Both the WC
and Streaming Store events reflect Write Combining buffer flushes, not individual store instructions. WC buffer
flushes which typically consist of one 64-byte write to the system for each flush (assuming software typically
fills a buffer before it gets flushed). A partially-filled buffer will require two or more smaller writes to the
system. The WC event reflects flushes of WC buffers that were filled by stores to WC memory or streaming stores
to WB memory. The Streaming Store event reflects only flushes due to streaming stores (which are typically only
to WB memory). The difference between counts of these two events reflects the true amount of write events to WC
memory." -/
def evt65 : EventInfo where
  select := 0x65
  name := "Memory Requests by Type"
  kind := .occurrences
  label := .unlabelled
  minRev := .preD
  table :=
    [⟨0x01, "Requests to non-cacheable (UC) memory", .preD⟩,
     ⟨0x02, "Requests to write-combining (WC) memory or WC buffer flushes to WB memory", .preD⟩,
     ⟨0x80, "Streaming store (SS) requests", .preD⟩]

/-- Event 67h, Data Prefetcher (R231). "These events reflect requests made by the data prefetcher. UNIT_MASK bit 1
counts total prefetch requests, while bit 0 counts requests where the target block is found in the L2 or data
cache. The difference between the two represents actual data read (in units of 64-byte cache lines) from the
system by the prefetcher. This is also included in the count of event 7Fh, UNIT_MASK bit 0 (combined with other
L2 fill events)." -/
def evt67 : EventInfo where
  select := 0x67
  name := "Data Prefetcher"
  kind := .occurrences
  label := .unlabelled
  minRev := .preD
  table :=
    [⟨0x01, "Cancelled prefetches", .preD⟩,
     ⟨0x02, "Prefetch attempts", .preD⟩]

/-- Event 6Ch, System Read Responses by Coherency State (R232). "The number of responses from the system for cache
refill requests. The UNIT_MASK may be used to select specific cache coherency states. Each increment represents
one 64-byte cache line transferred from the system (DRAM or another cache, including another core on the same
node) to the data cache, instruction cache or L2 cache (for data prefetcher and TLB table walks). Modified-state
responses may be for Dcache store miss refills, PrefetchW software prefetches, hardware prefetches for a
store-miss stream, or Change-to-Dirty requests that get a dirty (Owned) probe hit in another cache. Exclusive
responses may be for any Icache refill, Dcache load miss refill, other software prefetches, hardware prefetches
for a load-miss stream, or TLB table walks that miss in the L2 cache. Shared responses may be for any of those
that hit a clean line in another cache." -/
def evt6C : EventInfo where
  select := 0x6C
  name := "System Read Responses by Coherency State"
  kind := .occurrences
  label := .unlabelled
  minRev := .preD
  table :=
    [⟨0x01, "Exclusive", .preD⟩,
     ⟨0x02, "Modified", .preD⟩,
     ⟨0x04, "Shared", .preD⟩]

/-- Event 6Dh, Quadwords Written to System (R233). "The number of quadword (8-byte) data transfers from the
processor to the system. These may be part of a 64-byte cache line writeback or a 64-byte dirty probe hit
response, each of which would cause eight increments, or a partial or complete Write Combining buffer flush
(Sized Write), which could cause from one to eight increments." -/
def evt6D : EventInfo where
  select := 0x6D
  name := "Quadwords Written to System"
  kind := .occurrences
  label := .unlabelled
  minRev := .preD
  table :=
    [⟨0x01, "Quadword write transfer", .preD⟩]

/-- Event 76h, CPU Clocks not Halted (R249). "The number of clocks that the CPU is not in a halted state (due to
STPCLK or a HALT instruction)." "Note: This event allows system idle time to be automatically factored out from
IPC (or CPI) measurements, providing the OS halts the CPU when going idle. If the OS goes into an idle loop
rather than halting, such calculations will be influenced by the IPC of the idle loop." -/
def evt76 : EventInfo where
  select := 0x76
  name := "CPU Clocks not Halted"
  kind := .cycles
  label := .unlabelled
  minRev := .preD
  table := []

/-- Event 7Dh, Requests to L2 Cache (R234). "The number of requests to the L2 cache for Icache or Dcache fills, or
page table lookups for the TLB. These events reflect only read requests to the L2. Writes to the L2 are
indicated by event 7Fh. These include some amount of retries associated with address or resource conflicts. Such
retries tend to occur more as the L2 gets busier, and in certain extreme cases (such as large block moves that
overflow the L2) these extra requests can dominate the event count." "These extra requests are not a direct
indication of performance impact - they simply reflect opportunistic accesses that don't complete. But because
of this, they are not a good indication of actual cache line movement. The Icache and Dcache miss and refill
events (81h, 82h, 83h, 41h, 42h, 43h) provide a more accurate indication of this, and are the preferred way to
measure such traffic." -/
def evt7D : EventInfo where
  select := 0x7D
  name := "Requests to L2 Cache"
  kind := .occurrences
  label := .unlabelled
  minRev := .preD
  table :=
    [⟨0x01, "IC fill", .preD⟩,
     ⟨0x02, "DC fill", .preD⟩,
     ⟨0x04, "TLB fill (page table walks)", .preD⟩,
     ⟨0x08, "Tag snoop request", .preD⟩,
     ⟨0x10, "Cancelled request", .preD⟩]

/-- Event 7Eh, L2 Cache Misses (R235). "The number of requests that miss in the L2 cache. This may include some
amount of speculative activity, as well as some amount of retried requests as described in event 7Dh. The
IC-fill-miss and DC-fill-miss events tend to mirror the Icache and Dcache refill-from-system events (83h and
43h, respectively), and tend to include more speculative activity than those events." -/
def evt7E : EventInfo where
  select := 0x7E
  name := "L2 Cache Misses"
  kind := .occurrences
  label := .partlySpeculative
  minRev := .preD
  table :=
    [⟨0x01, "IC fill", .preD⟩,
     ⟨0x02, "DC fill (includes possible replays, whereas event 41h does not)", .preD⟩,
     ⟨0x04, "TLB page table walk", .preD⟩]

/-- Event 7Fh, L2 Fill/Writeback (R236). "The number of lines written into the L2 cache due to victim writebacks
from the Icache or Dcache, TLB page table walks and the hardware data prefetcher (UNIT_MASK bit 0); or
writebacks of dirty lines from the L2 to the system (UNIT_MASK bit 1). Each increment represents a 64-byte cache
line transfer." "Note: *Victim writebacks from the Dcache may be measured separately using event 44h. However,
this is not quite the same as the Dcache component of event 7Fh, the main difference being PrefetchNTA lines.
When these are evicted from the Dcache due to replacement, they are written out to system memory (if dirty) or
simply invalidated (if clean), rather than being moved to the L2 cache.*" -/
def evt7F : EventInfo where
  select := 0x7F
  name := "L2 Fill/Writeback"
  kind := .occurrences
  label := .unlabelled
  minRev := .preD
  table :=
    [⟨0x01, "L2 fills (victims from L1 caches, TLB page table walks and data prefetches)", .preD⟩,
     ⟨0x02, "writebacks of dirty lines from the L2 to the system", .preD⟩]

/-- Event 80h, Instruction Cache Fetches (R237). "The number of instruction cache accesses by the instruction
fetcher. Each access is an aligned 16 byte read, from which a varying number of instructions may be decoded." -/
def evt80 : EventInfo where
  select := 0x80
  name := "Instruction Cache Fetches"
  kind := .occurrences
  label := .speculative
  minRev := .preD
  table := []

/-- Event 81h, Instruction Cache Misses (R238). "The number of instruction fetches that miss in the instruction
cache. This is typically equal to or very close to the sum of events 82h and 83h. Each miss results in a 64-byte
cache line refill." -/
def evt81 : EventInfo where
  select := 0x81
  name := "Instruction Cache Misses"
  kind := .occurrences
  label := .speculative
  minRev := .preD
  table := []

/-- Event 82h, Instruction Cache Refills from L2 (R239). "The number of instruction cache refills satisfied from the
L2 cache. Each increment represents one 64-byte cache line transfer." -/
def evt82 : EventInfo where
  select := 0x82
  name := "Instruction Cache Refills from L2"
  kind := .occurrences
  label := .speculative
  minRev := .preD
  table := []

/-- Event 83h, Instruction Cache Refills from System (R240). "The number of instruction cache refills from system
memory (or another cache). Each increment represents one 64-byte cache line transfer." -/
def evt83 : EventInfo where
  select := 0x83
  name := "Instruction Cache Refills from System"
  kind := .occurrences
  label := .speculative
  minRev := .preD
  table := []

/-- Event 84h, L1 ITLB Miss, L2 ITLB Hit (R241). "The number of instruction fetches that miss in the L1 ITLB but hit
in the L2 ITLB." -/
def evt84 : EventInfo where
  select := 0x84
  name := "L1 ITLB Miss, L2 ITLB Hit"
  kind := .occurrences
  label := .speculative
  minRev := .preD
  table := []

/-- Event 85h, L1 ITLB Miss, L2 ITLB Miss (R242). "The number of instruction fetches that miss in both the L1 and L2
ITLBs." -/
def evt85 : EventInfo where
  select := 0x85
  name := "L1 ITLB Miss, L2 ITLB Miss"
  kind := .occurrences
  label := .speculative
  minRev := .preD
  table := []

/-- Event 86h, Pipeline Restart Due to Instruction Stream Probe (R243). "The number of pipeline restarts caused by
invalidating probes that hit on the instruction stream currently being executed. This would happen if the active
instruction stream was being modified by another processor in an MP system - typically a highly unlikely event." -/
def evt86 : EventInfo where
  select := 0x86
  name := "Pipeline Restart Due to Instruction Stream Probe"
  kind := .occurrences
  label := .speculative
  minRev := .preD
  table := []

/-- Event 87h, Instruction Fetch Stall (R244). "The number of cycles the instruction fetcher is stalled. This may be
for a variety of reasons such as branch predictor updates, unconditional branch bubbles, far jumps and cache
misses, among others. May be overlapped by instruction dispatch stalls or instruction execution, such that these
stalls don't necessarily impact performance." -/
def evt87 : EventInfo where
  select := 0x87
  name := "Instruction Fetch Stall"
  kind := .cycles
  label := .speculative
  minRev := .preD
  table := []

/-- Event 88h, Return Stack Hits (R245). "The number of near return instructions (RET or RET Iw) that get their
return address from the return address stack (i.e. where the stack has not gone empty). This may include cases
where the address is incorrect (return mispredicts). This may also include speculatively executed false-path
returns. Return mispredicts are typically caused by the return address stack underflowing. However, they may
also be caused by an imbalance in calls vs. returns, such as doing a call but then popping the return address
off the stack." "***Note:** This event cannot be reliably compared with events C9h and CAh (such as to calculate
percentage of return mispredicts due to an empty return address stack), since it may include speculatively
executed false-path returns that are not included in those retire-time events.*" -/
def evt88 : EventInfo where
  select := 0x88
  name := "Return Stack Hits"
  kind := .occurrences
  label := .speculative
  minRev := .preD
  table := []

/-- Event 89h, Return Stack Overflows (R246). "The number of (near) call instructions that cause the return address
stack to overflow. When this happens, the oldest entry is discarded. This count may include speculatively
executed calls." -/
def evt89 : EventInfo where
  select := 0x89
  name := "Return Stack Overflows"
  kind := .occurrences
  label := .speculative
  minRev := .preD
  table := []

/-- Event C0h, Retired Instructions (R250). "The number of instructions retired (execution completed and
architectural state updated). This count includes exceptions and interrupts – each exception or interrupt is
counted as one instruction." -/
def evtC0 : EventInfo where
  select := 0xC0
  name := "Retired Instructions"
  kind := .occurrences
  label := .retired
  minRev := .preD
  table := []

/-- Event C1h, Retired uops (R251). "The number of micro-ops retired. This includes all processor activity
(instructions, exceptions, interrupts, microcode assists, etc.)." -/
def evtC1 : EventInfo where
  select := 0xC1
  name := "Retired uops"
  kind := .occurrences
  label := .retired
  minRev := .preD
  table := []

/-- Event C2h, Retired Branch Instructions (R252). "The number of branch instructions retired. This includes all
types of architectural control flow changes, including exceptions and interrupts." -/
def evtC2 : EventInfo where
  select := 0xC2
  name := "Retired Branch Instructions"
  kind := .occurrences
  label := .retired
  minRev := .preD
  table := []

/-- Event C3h, Retired Mispredicted Branch Instructions (R253). "The number of branch instructions retired, of any
type, that were not correctly predicted. This includes those for which prediction is not attempted (far control
transfers, exceptions and interrupts)." -/
def evtC3 : EventInfo where
  select := 0xC3
  name := "Retired Mispredicted Branch Instructions"
  kind := .occurrences
  label := .retired
  minRev := .preD
  table := []

/-- Event C4h, Retired Taken Branch Instructions (R254). "The number of taken branches that were retired. This
includes all types of architectural control flow changes, including exceptions and interrupts." -/
def evtC4 : EventInfo where
  select := 0xC4
  name := "Retired Taken Branch Instructions"
  kind := .occurrences
  label := .retired
  minRev := .preD
  table := []

/-- Event C5h, Retired Taken Branch Instructions Mispredicted (R255). "The number of retired taken branch
instructions that were mispredicted." -/
def evtC5 : EventInfo where
  select := 0xC5
  name := "Retired Taken Branch Instructions Mispredicted"
  kind := .occurrences
  label := .retired
  minRev := .preD
  table := []

/-- Event C6h, Retired Far Control Transfers (R256). "The number of far control transfers retired including far
call/jump/return, IRET, SYSCALL and SYSRET, plus exceptions and interrupts. Far control transfers are not
subject to branch prediction." -/
def evtC6 : EventInfo where
  select := 0xC6
  name := "Retired Far Control Transfers"
  kind := .occurrences
  label := .retired
  minRev := .preD
  table := []

/-- Event C7h, Retired Branch Resyncs (R257). "The number of resync branches. These reflect pipeline restarts due to
certain microcode assists and events such as writes to the active instruction stream, among other things. Each
occurrence reflects a restart penalty similar to a branch mispredict. Relatively rare." -/
def evtC7 : EventInfo where
  select := 0xC7
  name := "Retired Branch Resyncs"
  kind := .occurrences
  label := .retired
  minRev := .preD
  table := []

/-- Event C8h, Retired Near Returns (R258). "The number of near return instructions (RET or RET Iw) retired." -/
def evtC8 : EventInfo where
  select := 0xC8
  name := "Retired Near Returns"
  kind := .occurrences
  label := .retired
  minRev := .preD
  table := []

/-- Event C9h, Retired Near Returns Mispredicted (R259). "The number of near returns retired that were not correctly
predicted by the return address predictor. Each such mispredict incurs the same penalty as a mispredicted
conditional branch instruction." -/
def evtC9 : EventInfo where
  select := 0xC9
  name := "Retired Near Returns Mispredicted"
  kind := .occurrences
  label := .retired
  minRev := .preD
  table := []

/-- Event CAh, Retired Indirect Branches Mispredicted (R260). "The number of indirect branch instructions retired
where the target address was not correctly predicted." -/
def evtCA : EventInfo where
  select := 0xCA
  name := "Retired Indirect Branches Mispredicted"
  kind := .occurrences
  label := .retired
  minRev := .preD
  table := []

/-- Event CBh, Retired MMX/FP Instructions (R261). "The number of MMX, SSE or X87 instructions retired. The
UNIT_MASK allows the selection of the individual classes of instructions as given in the table. Each increment
represents one complete instruction." "Note: *Since this event includes non-numeric instructions, it is not
suitable for measuring MFLOPS.*" -/
def evtCB : EventInfo where
  select := 0xCB
  name := "Retired MMX/FP Instructions"
  kind := .occurrences
  label := .retired
  minRev := .preD
  table :=
    [⟨0x01, "x87 instructions", .preD⟩,
     ⟨0x02, "MMX™ and 3DNow!™ instructions", .preD⟩,
     ⟨0x04, "Packed SSE and SSE2 instructions", .preD⟩,
     ⟨0x08, "Scalar SSE and SSE2 instructions", .preD⟩]

/-- Event CCh, Retired Fastpath Double op Instructions (R262). the source gives the heading and the table only, with
no description (`91_not_in_source.md` N16). -/
def evtCC : EventInfo where
  select := 0xCC
  name := "Retired Fastpath Double op Instructions"
  kind := .notStated
  label := .retired
  minRev := .preD
  table :=
    [⟨0x01, "With low op in position 0", .preD⟩,
     ⟨0x02, "With low op in position 1", .preD⟩,
     ⟨0x04, "With low op in position 2", .preD⟩]

/-- Event CDh, Interrupts-Masked Cycles (R263). "The number of processor cycles where interrupts are masked
(EFLAGS.IF = 0). Using edge-counting with this event gives the number of times IF is cleared. Dividing the
cycle-count value by this value gives the average length of time that interrupts are disabled on each instance.
Compare the edge count with event CFh to determine how often interrupts are disabled for interrupt handling vs.
other reasons (e.g., critical sections)." -/
def evtCD : EventInfo where
  select := 0xCD
  name := "Interrupts-Masked Cycles"
  kind := .cycles
  label := .unlabelled
  minRev := .preD
  table := []

/-- Event CEh, Interrupts-Masked Cycles with Interrupt Pending (R264). "The number of processor cycles where
interrupts are masked (EFLAGS.IF = 0) and an interrupt is pending. Using edge-counting with this event and
comparing the resulting count with the edge count for event CDh gives the proportion of interrupts for which
handling is delayed due to prior interrupts being serviced, critical sections, etc. The cycle count value gives
the total amount of time for such delays. The cycle count divided by the edge count gives the average length of
each such delay." -/
def evtCE : EventInfo where
  select := 0xCE
  name := "Interrupts-Masked Cycles with Interrupt Pending"
  kind := .cycles
  label := .unlabelled
  minRev := .preD
  table := []

/-- Event CFh, Interrupts Taken (R265). "The number of hardware interrupts taken. This does not include software
interrupts (INT n instruction)." -/
def evtCF : EventInfo where
  select := 0xCF
  name := "Interrupts Taken"
  kind := .occurrences
  label := .unlabelled
  minRev := .preD
  table := []

/-- Event D0h, Decoder Empty (R266). "The number of processor cycles where the decoder has nothing to dispatch
(typically waiting on an instruction fetch that missed the Icache or for the target fetch after a branch
mispredict)." -/
def evtD0 : EventInfo where
  select := 0xD0
  name := "Decoder Empty"
  kind := .cycles
  label := .unlabelled
  minRev := .preD
  table := []

/-- Event D1h, Dispatch Stalls (R267). "The number of processor cycles where the decoder is stalled for any reason
(has one or more instructions ready but can't dispatch them due to resource limitations in execution). This is
the combined effect of events D2h - DAh, some of which may overlap. This event reflects the net stall cycles.
The more common stall conditions (events D5h, D6h, D7h, D8h, and to a lesser extent D2) may overlap
considerably. The occurrence of these stalls is highly dependent on the nature of the code being executed
(instruction mix, memory reference patterns, etc.)." -/
def evtD1 : EventInfo where
  select := 0xD1
  name := "Dispatch Stalls"
  kind := .cycles
  label := .unlabelled
  minRev := .preD
  table := []

/-- Event D2h, Dispatch Stall for Branch Abort to Retire (R268). "The number of processor cycles the decoder is
stalled waiting for the pipe to drain after a mispredicted branch. This stall occurs if the corrected target
instruction reaches the dispatch stage before the pipe has emptied. See also event D1h." -/
def evtD2 : EventInfo where
  select := 0xD2
  name := "Dispatch Stall for Branch Abort to Retire"
  kind := .cycles
  label := .unlabelled
  minRev := .preD
  table := []

/-- Event D3h, Dispatch Stall for Serialization (R269). "The number of processor cycles the decoder is stalled due
to a serializing operation, which waits for the execution pipeline to drain. Relatively rare; mainly associated
with system instructions. See also event D1h." -/
def evtD3 : EventInfo where
  select := 0xD3
  name := "Dispatch Stall for Serialization"
  kind := .cycles
  label := .unlabelled
  minRev := .preD
  table := []

/-- Event D4h, Dispatch Stall for Segment Load (R270). "The number of processor cycles the decoder is stalled due to
a segment load instruction being encountered while execution of a previous segment load operation is still
pending. Relatively rare except in 16-bit code. See also event D1h." -/
def evtD4 : EventInfo where
  select := 0xD4
  name := "Dispatch Stall for Segment Load"
  kind := .cycles
  label := .unlabelled
  minRev := .preD
  table := []

/-- Event D5h, Dispatch Stall for Reorder Buffer Full (R271). "The number of processor cycles the decoder is stalled
because the reorder buffer is full. May occur simultaneously with certain other stall conditions. See event
D1h." -/
def evtD5 : EventInfo where
  select := 0xD5
  name := "Dispatch Stall for Reorder Buffer Full"
  kind := .cycles
  label := .unlabelled
  minRev := .preD
  table := []

/-- Event D6h, Dispatch Stall for Reservation Station Full (R272). "The number of processor cycles the decoder is
stalled because a required integer unit reservation stations is full. May occur simultaneously with certain
other stall conditions. See event D1h." -/
def evtD6 : EventInfo where
  select := 0xD6
  name := "Dispatch Stall for Reservation Station Full"
  kind := .cycles
  label := .unlabelled
  minRev := .preD
  table := []

/-- Event D7h, Dispatch Stall for FPU Full (R273). "The number of processor cycles the decoder is stalled because
the scheduler for the Floating Point Unit is full. This condition can be caused by a lack of parallelism in
FP-intensive code, or by cache misses on FP operand loads (which could also show up as event D8h instead,
depending on the nature of the instruction sequences). May occur simultaneously with certain other stall
conditions. See event D1h." -/
def evtD7 : EventInfo where
  select := 0xD7
  name := "Dispatch Stall for FPU Full"
  kind := .cycles
  label := .unlabelled
  minRev := .preD
  table := []

/-- Event D8h, Dispatch Stall for LS Full (R274). "The number of processor cycles the decoder is stalled because the
Load/Store Unit is full. This generally occurs due to heavy cache miss activity. May occur simultaneously with
certain other stall conditions. See event D1h." -/
def evtD8 : EventInfo where
  select := 0xD8
  name := "Dispatch Stall for LS Full"
  kind := .cycles
  label := .unlabelled
  minRev := .preD
  table := []

/-- Event D9h, Dispatch Stall Waiting for All Quiet (R275). "The number of processor cycles the decoder is stalled
waiting for all outstanding requests to the system to be resolved. Relatively rare; associated with certain
system instructions and types of interrupts. May partially overlap certain other stall conditions; see event
D1h." -/
def evtD9 : EventInfo where
  select := 0xD9
  name := "Dispatch Stall Waiting for All Quiet"
  kind := .cycles
  label := .unlabelled
  minRev := .preD
  table := []

/-- Event DAh, Dispatch Stall for Far Transfer or Resync to Retire (R276). "The number of processor cycles the
decoder is stalled waiting for the execution pipeline to drain before dispatching the target instructions of a
far control transfer or a Resync (an instruction stream restart associated with certain microcode assists).
Relatively rare; does not overlap with other stall conditions. See also event D1h." -/
def evtDA : EventInfo where
  select := 0xDA
  name := "Dispatch Stall for Far Transfer or Resync to Retire"
  kind := .cycles
  label := .unlabelled
  minRev := .preD
  table := []

/-- Event DBh, FPU Exceptions (R277). "The number of floating point unit exceptions for microcode assists. The
UNIT_MASK may be used to isolate specific types of exceptions." -/
def evtDB : EventInfo where
  select := 0xDB
  name := "FPU Exceptions"
  kind := .occurrences
  label := .unlabelled
  minRev := .preD
  table :=
    [⟨0x01, "x87 reclass microfaults", .preD⟩,
     ⟨0x02, "SSE retype microfaults", .preD⟩,
     ⟨0x04, "SSE reclass microfaults", .preD⟩,
     ⟨0x08, "SSE and x87 microtraps", .preD⟩]

/-- Event DCh, DR0 Breakpoint Matches (R278). "The number of matches on the address in breakpoint register DR0, per
the breakpoint type specified in DR7. The breakpoint does not have to be enabled. Each instruction breakpoint
match incurs an overhead of about 120 cycles. Load/store breakpoint matches do not incur any overhead." -/
def evtDC : EventInfo where
  select := 0xDC
  name := "DR0 Breakpoint Matches"
  kind := .occurrences
  label := .unlabelled
  minRev := .preD
  table := []

/-- Event DDh, DR1 Breakpoint Matches (R279). "The number of matches on the address in breakpoint register DR1. See
notes for event DCh." -/
def evtDD : EventInfo where
  select := 0xDD
  name := "DR1 Breakpoint Matches"
  kind := .occurrences
  label := .unlabelled
  minRev := .preD
  table := []

/-- Event DEh, DR2 Breakpoint Matches (R280). "The number of matches on the address in breakpoint register DR2. See
notes for event DCh." -/
def evtDE : EventInfo where
  select := 0xDE
  name := "DR2 Breakpoint Matches"
  kind := .occurrences
  label := .unlabelled
  minRev := .preD
  table := []

/-- Event DFh, DR3 Breakpoint Matches (R281). "The number of matches on the address in breakpoint register DR3. See
notes for event DCh." -/
def evtDF : EventInfo where
  select := 0xDF
  name := "DR3 Breakpoint Matches"
  kind := .occurrences
  label := .unlabelled
  minRev := .preD
  table := []

/-- Event E0h, DRAM Accesses (R291). "The number of memory accesses performed by the local DRAM controller. The
UNIT_MASK may be used to isolate the different DRAM page access cases. Page miss cases incur an extra latency to
open a page; page conflict cases incur both a page-close as well as page-open penalties. These penalties may be
overlapped by DRAM accesses for other requests and don't necessarily represent lost DRAM bandwidth. The
associated penalties are as follows:" "Page miss = Trcd (DRAM RAS-to-CAS delay)"; "Page conflict = Trp + Trcd
(DRAM row-precharge time plus RAS-to-CAS delay)". "Each DRAM access represents one 64-byte block of data
transferred if the DRAM is configured for 64-byte granularity, or one 32-byte block if the DRAM is configured
for 32-byte granularity. (The latter is only applicable to single-channel DRAM systems, which may be configured
either way.)" -/
def evtE0 : EventInfo where
  select := 0xE0
  name := "DRAM Accesses"
  kind := .occurrences
  label := .unlabelled
  minRev := .preD
  table :=
    [⟨0x01, "Page hit", .preD⟩,
     ⟨0x02, "Page Miss", .preD⟩,
     ⟨0x04, "Page Conflict", .preD⟩]

/-- Event E1h, Memory Controller Page Table Overflows (R292). "The number of page table overflows in the local DRAM
controller. This table maintains information about which DRAM pages are open. An overflow occurs when a request
for a new page arrives when the maximum number of pages are already open. Each occurrence reflects an access
latency penalty equivalent to a page conflict." -/
def evtE1 : EventInfo where
  select := 0xE1
  name := "Memory Controller Page Table Overflows"
  kind := .occurrences
  label := .unlabelled
  minRev := .preD
  table := []

/-- Event E3h, Memory Controller Turnarounds (R293). "The number of turnarounds on the local DRAM data bus. The
UNIT_MASK may be used to isolate the different cases. These represent lost DRAM bandwidth, which may be
calculated as follows (in bytes per occurrence):" "DIMM turnaround = DRAM_width_in_bytes * 2 edges_per_memclk *
2"; "R/W turnaround = DRAM_width_in_bytes * 2 edges_per_memclk * 1"; "R/W turnaround = DRAM_width_in_bytes * 2
edges_per_memclk * (Tcl-1)"; "where DRAM_width_in_bytes is 8 or 16 (for single- or dual-channel systems), and
Tcl is the CAS latency of the DRAM in memory system clock cycles (where the memory clock for DDR-400, or PC3200
DIMMS, for example, would be 200 MHz)." -/
def evtE3 : EventInfo where
  select := 0xE3
  name := "Memory Controller Turnarounds"
  kind := .occurrences
  label := .unlabelled
  minRev := .preD
  table :=
    [⟨0x01, "DIMM (chip select) turnaround", .preD⟩,
     ⟨0x02, "Read to write turnaround", .preD⟩,
     ⟨0x04, "Write to read turnaround", .preD⟩]

/-- Event E4h, Memory Controller Bypass Counter Saturation (R294). the source gives the heading and the table only,
with no description (`91_not_in_source.md` N16). -/
def evtE4 : EventInfo where
  select := 0xE4
  name := "Memory Controller Bypass Counter Saturation"
  kind := .notStated
  label := .unlabelled
  minRev := .preD
  table :=
    [⟨0x01, "Memory controller high priority bypass", .preD⟩,
     ⟨0x02, "Memory controller low priority bypass", .preD⟩,
     ⟨0x04, "DRAM controller interface bypass", .preD⟩,
     ⟨0x08, "DRAM controller queue bypass", .preD⟩]

/-- Event E5h, Sized Blocks (R295). "Sized Read/Write activity: The Sized Read/Write events reflect 32- or 64-byte
transfers (as opposed to other sizes which could be anywhere between 1 and 64 bytes), from either the processor
or the Hostbridge (on any node in an MP system). Such accesses from the processor would be due only to write
combining buffer flushes, where 32-byte accesses would reflect flushes of partially-filled buffers. Event 65h
provides a count of sized write requests associated with WC buffer flushes; comparing that with counts for these
events (providing there is very little Hostbridge activity at the same time) will give an indication of how
efficiently the write combining buffers are being used. Event 65h may also be useful in factoring out WC flushes
when comparing these events with the Upstream Requests component of event ECh." -/
def evtE5 : EventInfo where
  select := 0xE5
  name := "Sized Blocks"
  kind := .occurrences
  label := .unlabelled
  minRev := .preD
  table :=
    [⟨0x04, "32-byte Sized Writes (Revision D and later revisions)", .D⟩,
     ⟨0x08, "64-byte Sized Writes (Revision D and later revisions)", .D⟩,
     ⟨0x10, "32-byte Sized Reads (Revision D and later revisions)", .D⟩,
     ⟨0x20, "64-byte Sized Reads (Revision D and later revisions)", .D⟩]

/-- Event E8h, ECC Errors (R296). the source gives the heading and the table only. -/
def evtE8 : EventInfo where
  select := 0xE8
  name := "ECC Errors"
  kind := .occurrences
  label := .unlabelled
  minRev := .preD
  table :=
    [⟨0x80, "Number of correctable and Uncorrectable DRAM ECC errors (Revision E)", .E⟩]

/-- Event E9h, CPU/IO Requests to Memory/IO (R298). "These events reflect request flow between units and nodes, as
selected by the UNIT_MASK. The UNIT_MASK is divided into two fields: request type (CPU or I/O access to I/O or
Memory) and source/target location (local vs. remote). One or more requests types must be enabled with
UNIT_MASK[3:0], and at least one source and one target location must be selected with UNIT_MASK[7:4]. Each event
reflects a request of the selected type(s) going from the selected source(s) to the selected target(s)." "Not
all possible paths are supported. The following table shows the UNIT_MASK values that are valid for each request
type." | Source/Target | CPU to Mem | CPU to I/O | I/O to Mem | I/O to I/O | |---|---|---|---|---| | Local ->
Local | A8h | A4h | A2h | A1h | | Local -> Remote | 98h | 94h | 92h | 91h | | Remote -> Local | - | 64h | - |
61h | | Remote -> Remote | - | - | - | - | "Any of the mask values shown may be logically ORed to combine the
events. For instance, local CPU requests to both local and remote nodes would be A8h | 98h = B8h. Any CPU to any
I/O would be A4h | 94h | 64h = F4h (but remote CPU to remote I/O requests would not be included)." "Note: *It is
not possible to tell from these events how much data is going in which direction, as there is no distinction
between reads and writes. Also, particularly for I/O, the requests may be for varying amounts of data, anywhere
from one to sixty-four bytes. Event E5h provides an indication of 32- and 64-byte read and write transfers for
such requests (although from the target point of view). For a direct measure of the amount and direction of data
flowing between nodes, use events F6h, F7h and F8h.*" -/
def evtE9 : EventInfo where
  select := 0xE9
  name := "CPU/IO Requests to Memory/IO"
  kind := .occurrences
  label := .unlabelled
  minRev := .E
  table :=
    [⟨0x01, "I/O to I/O (request type group, UNIT_MASK[3:0])", .preD⟩,
     ⟨0x02, "I/O to Mem (request type group)", .preD⟩,
     ⟨0x04, "CPU to I/O (request type group)", .preD⟩,
     ⟨0x08, "CPU to Mem (request type group)", .preD⟩,
     ⟨0x10, "To remote node (location group, UNIT_MASK[7:4])", .preD⟩,
     ⟨0x20, "To local node (location group)", .preD⟩,
     ⟨0x40, "From remote node (location group)", .preD⟩,
     ⟨0x80, "From local node (location group)", .preD⟩]

/-- Event EAh, Cache Block Commands (R299). "The number of requests made to the system for cache line transfers or
coherency state changes, by request type. Each increment represents one cache line transfer, except for
Change-to-Dirty. If a Change-to-Dirty request hits on a line in another processor's cache that is in the Owned
state, the request causes a cache line transfer, otherwise no data transfer is associated with Change-to-Dirty
requests." -/
def evtEA : EventInfo where
  select := 0xEA
  name := "Cache Block Commands"
  kind := .occurrences
  label := .unlabelled
  minRev := .E
  table :=
    [⟨0x01, "Victim Block (Writeback)", .preD⟩,
     ⟨0x04, "Read Block (Dcache load miss refill)", .preD⟩,
     ⟨0x08, "Read Block Shared (Icache refill)", .preD⟩,
     ⟨0x10, "Read Block Modified (Dcache store miss refill)", .preD⟩,
     ⟨0x20, "Change to Dirty (first store to clean block already in cache)", .preD⟩]

/-- Event EBh, Sized Commands (R300). "The number of Sized Read/Write commands handled by the System Request
Interface (local processor and hostbridge interface to the system). These commands may originate from the
processor or hostbridge. Typical uses of the various Sized Read/Write commands are given in the UNIT_MASK table.
See also event E5h, which covers commonly-used block sizes for these requests, and event ECh, which provides a
separate measure of Hostbridge accesses." -/
def evtEB : EventInfo where
  select := 0xEB
  name := "Sized Commands"
  kind := .occurrences
  label := .unlabelled
  minRev := .preD
  table :=
    [⟨0x01, "NonPosted SzWr Byte (1-32 bytes)", .preD⟩,
     ⟨0x02, "NonPosted SzWr Dword (1-16 dwords)", .preD⟩,
     ⟨0x04, "Posted SzWr Byte (1-32 bytes)", .preD⟩,
     ⟨0x08, "Posted SzWr Dword (1-16 dwords)", .preD⟩,
     ⟨0x10, "SzRd Byte (4 bytes)", .preD⟩,
     ⟨0x20, "SzRd Dword (1-16 dwords)", .preD⟩,
     ⟨0x40, "RdModWr", .preD⟩]

/-- Event ECh, Probe Responses and Upstream Requests (R301). "This covers two unrelated sets of events — cache probe
results and requests received by the Hostbridge from devices on non-coherent links." "Probe results: These
events reflect the results of probes sent from a memory controller to local caches. They provide an indication
of the degree data and code is shared between processors (or moved between processors due to process migration).
The dirty-hit events indicate the transfer of a 64-byte cache line to the requestor (for a read or cache refill)
or the target memory (for a write). The system bandwidth used by these, in terms of bytes per unit of time, may
be calculated as 64 times the event count, divided by the elapsed time. Sized writes to memory that cover a full
cache line do not incur this cache line transfer — they simply invalidate the line and are reported as clean
hits. Cache line transfers occur for Change2Dirty requests that hit cache lines in the Owned state. (Such cache
lines are counted as Modified-state refills for event 6Ch, System Read Responses.)" "Upstream requests: The
upstream read and write events reflect requests originating from a device on a local non-coherent HyperTransport
link. The two read events allow display refresh traffic in a UMA system to be measured separately from other DMA
activity. Display refresh traffic will typically be dominated by 64-byte transfers. Non-display-related DMA
accesses may be anywhere from 1 to 64 bytes in size, but may be dominated by a particular size such as 32 or 64
bytes, depending on the nature of the devices. Event E5h can provide a measure of 32- and 64-byte accesses by
the hostbridge (possibly combined with write combining buffer flush activity from the processor, although that
can be factored out via event 65h)." -/
def evtEC : EventInfo where
  select := 0xEC
  name := "Probe Responses and Upstream Requests"
  kind := .occurrences
  label := .unlabelled
  minRev := .preD
  table :=
    [⟨0x01, "Probe miss", .preD⟩,
     ⟨0x02, "Probe hit clean", .preD⟩,
     ⟨0x04, "Probe hit dirty without memory cancel (probed by Sized Write or Change2Dirty)", .preD⟩,
     ⟨0x08, "Probe hit dirty with memory cancel (probed by DMA read or cache refill request)", .preD⟩,
     ⟨0x10, "Upstream display refresh reads", .preD⟩,
     ⟨0x20, "Upstream non-display refresh reads", .preD⟩,
     ⟨0x40, "Upstream writes (Revision D and later revisions)", .D⟩]

/-- Event EEh, GART Events (R302). "These events reflect GART activity, and in particular allow one to calculate the
GART TLB miss ratio as GART_miss_count divided by GART_aperture_hit_count. GART aperture accesses are typically
from I/O devices as opposed to the processor and are generally from a 3D graphics accelerator, but can be from
other devices when the GART is used as an IO MMU)." -/
def evtEE : EventInfo where
  select := 0xEE
  name := "GART Events"
  kind := .occurrences
  label := .unlabelled
  minRev := .preD
  table :=
    [⟨0x01, "GART aperture hit on access from CPU", .preD⟩,
     ⟨0x02, "GART aperture hit on access from I/O", .preD⟩,
     ⟨0x04, "GART miss", .preD⟩]

/-- Event F6h, HyperTransport Link 0 Transmit Bandwidth (R304). "The number of Dwords transmitted (or unused, in the
case of Nops) on the outgoing side of the HyperTransport links. The sum of all four subevents (all four
UNIT_MASK bits set) directly reflects the maximum transmission rate of the link. Link utilization may be
calculated by dividing the combined Command, Data and Buffer Release count (UNIT_MASK 07h) by that value plus
the Nop count (UNIT_MASK 08h). Bandwidth in terms of bytes per unit time for any one component or combination of
components is calculated by multiplying the count by four and dividing by elapsed time." "The Data event
provides a direct indication of the flow of data around the system. Translating this link-based view into a
source/target node based view requires knowledge of the system layout (i.e. which links connect to which
nodes)." -/
def evtF6 : EventInfo where
  select := 0xF6
  name := "HyperTransport Link 0 Transmit Bandwidth"
  kind := .occurrences
  label := .unlabelled
  minRev := .preD
  table :=
    [⟨0x01, "Command Dword sent", .preD⟩,
     ⟨0x02, "Data Dword sent", .preD⟩,
     ⟨0x04, "Buffer release Dword sent", .preD⟩,
     ⟨0x08, "Nop Dword sent (idle)", .preD⟩]

/-- Event F7h, HyperTransport Link 1 Transmit Bandwidth (R305). As event F6h, for link 1. -/
def evtF7 : EventInfo where
  select := 0xF7
  name := "HyperTransport Link 1 Transmit Bandwidth"
  kind := .occurrences
  label := .unlabelled
  minRev := .preD
  table :=
    [⟨0x01, "Command Dword sent", .preD⟩,
     ⟨0x02, "Data Dword sent", .preD⟩,
     ⟨0x04, "Buffer release Dword sent", .preD⟩,
     ⟨0x08, "Nop Dword sent (idle)", .preD⟩]

/-- Event F8h, HyperTransport Link 2 Transmit Bandwidth (R306). As event F6h, for link 2. -/
def evtF8 : EventInfo where
  select := 0xF8
  name := "HyperTransport Link 2 Transmit Bandwidth"
  kind := .occurrences
  label := .unlabelled
  minRev := .preD
  table :=
    [⟨0x01, "Command Dword sent", .preD⟩,
     ⟨0x02, "Data Dword sent", .preD⟩,
     ⟨0x04, "Buffer release Dword sent", .preD⟩,
     ⟨0x08, "Nop Dword sent (idle)", .preD⟩]

/-- The 87 events of the event map (R86), in the order of their rules. -/
def catalogue : List EventInfo :=
  [evt00, evt01, evt02, evt20, evt21, evt22, evt23, evt24, evt26, evt27, evt40, evt41, evt42, evt43, evt44,
   evt45, evt46, evt47, evt48, evt49, evt4A, evt4B, evt4C, evt65, evt67, evt6C, evt6D, evt76, evt7D, evt7E,
   evt7F, evt80, evt81, evt82, evt83, evt84, evt85, evt86, evt87, evt88, evt89, evtC0, evtC1, evtC2, evtC3,
   evtC4, evtC5, evtC6, evtC7, evtC8, evtC9, evtCA, evtCB, evtCC, evtCD, evtCE, evtCF, evtD0, evtD1, evtD2,
   evtD3, evtD4, evtD5, evtD6, evtD7, evtD8, evtD9, evtDA, evtDB, evtDC, evtDD, evtDE, evtDF, evtE0, evtE1,
   evtE3, evtE4, evtE5, evtE8, evtE9, evtEA, evtEB, evtEC, evtEE, evtF6, evtF7, evtF8]

/-- The spec's default `EventSet`: "the table of `event_table.json`" (R7), the 87 events with their UNIT_MASK tables and
revision limits. -/
def specEventSet : EventSet := catalogue.map EventInfo.pairs

/-- The catalogue entry of an event word and its control fields; an access instruction has none (R83). -/
def eventOf : Instr → Option (EventInfo × EvtCtl)
  | .wrmsr => none
  | .rdmsr => none
  | .rdpmc => none
  | .evt00 f => some (evt00, f)
  | .evt01 f => some (evt01, f)
  | .evt02 f => some (evt02, f)
  | .evt20 f => some (evt20, f)
  | .evt21 f => some (evt21, f)
  | .evt22 f => some (evt22, f)
  | .evt23 f => some (evt23, f)
  | .evt24 f => some (evt24, f)
  | .evt26 f => some (evt26, f)
  | .evt27 f => some (evt27, f)
  | .evt40 f => some (evt40, f)
  | .evt41 f => some (evt41, f)
  | .evt42 f => some (evt42, f)
  | .evt43 f => some (evt43, f)
  | .evt44 f => some (evt44, f)
  | .evt45 f => some (evt45, f)
  | .evt46 f => some (evt46, f)
  | .evt47 f => some (evt47, f)
  | .evt48 f => some (evt48, f)
  | .evt49 f => some (evt49, f)
  | .evt4A f => some (evt4A, f)
  | .evt4B f => some (evt4B, f)
  | .evt4C f => some (evt4C, f)
  | .evt65 f => some (evt65, f)
  | .evt67 f => some (evt67, f)
  | .evt6C f => some (evt6C, f)
  | .evt6D f => some (evt6D, f)
  | .evt76 f => some (evt76, f)
  | .evt7D f => some (evt7D, f)
  | .evt7E f => some (evt7E, f)
  | .evt7F f => some (evt7F, f)
  | .evt80 f => some (evt80, f)
  | .evt81 f => some (evt81, f)
  | .evt82 f => some (evt82, f)
  | .evt83 f => some (evt83, f)
  | .evt84 f => some (evt84, f)
  | .evt85 f => some (evt85, f)
  | .evt86 f => some (evt86, f)
  | .evt87 f => some (evt87, f)
  | .evt88 f => some (evt88, f)
  | .evt89 f => some (evt89, f)
  | .evtC0 f => some (evtC0, f)
  | .evtC1 f => some (evtC1, f)
  | .evtC2 f => some (evtC2, f)
  | .evtC3 f => some (evtC3, f)
  | .evtC4 f => some (evtC4, f)
  | .evtC5 f => some (evtC5, f)
  | .evtC6 f => some (evtC6, f)
  | .evtC7 f => some (evtC7, f)
  | .evtC8 f => some (evtC8, f)
  | .evtC9 f => some (evtC9, f)
  | .evtCA f => some (evtCA, f)
  | .evtCB f => some (evtCB, f)
  | .evtCC f => some (evtCC, f)
  | .evtCD f => some (evtCD, f)
  | .evtCE f => some (evtCE, f)
  | .evtCF f => some (evtCF, f)
  | .evtD0 f => some (evtD0, f)
  | .evtD1 f => some (evtD1, f)
  | .evtD2 f => some (evtD2, f)
  | .evtD3 f => some (evtD3, f)
  | .evtD4 f => some (evtD4, f)
  | .evtD5 f => some (evtD5, f)
  | .evtD6 f => some (evtD6, f)
  | .evtD7 f => some (evtD7, f)
  | .evtD8 f => some (evtD8, f)
  | .evtD9 f => some (evtD9, f)
  | .evtDA f => some (evtDA, f)
  | .evtDB f => some (evtDB, f)
  | .evtDC f => some (evtDC, f)
  | .evtDD f => some (evtDD, f)
  | .evtDE f => some (evtDE, f)
  | .evtDF f => some (evtDF, f)
  | .evtE0 f => some (evtE0, f)
  | .evtE1 f => some (evtE1, f)
  | .evtE3 f => some (evtE3, f)
  | .evtE4 f => some (evtE4, f)
  | .evtE5 f => some (evtE5, f)
  | .evtE8 f => some (evtE8, f)
  | .evtE9 f => some (evtE9, f)
  | .evtEA f => some (evtEA, f)
  | .evtEB f => some (evtEB, f)
  | .evtEC f => some (evtEC, f)
  | .evtEE f => some (evtEE, f)
  | .evtF6 f => some (evtF6, f)
  | .evtF7 f => some (evtF7, f)
  | .evtF8 f => some (evtF8, f)

end Sys2Proof.Machine
end

