-- ==== Sys2Proof/Machine/State.lean ====
section
/-! DEFINITION. The state of the machine as plain data (spec/10_state.md R20; INVENTORY.md lists every field with its
rule), the reasons a step stops, and the state after reset (R50; log entries 3 and 4). -/

namespace Sys2Proof.Machine

/-- Why a step stops with a fault. -/
inductive Fault
  /-- Raised by RDMSR and WRMSR at CPL > 0 (R103) and by RDPMC (R111, R112): `#GP` with its error code and the pc of
  the instruction (R316, R318), with nothing written. `step` does not stop on it: it records it in the core. Safe:
  what the exception mechanism does next is left to the environment. -/
  | generalProtection (c : CoreId) (errorCode : Nat) (pc : Addr)
  /-- Raised by the fetch of `step` when the instruction at `pc` reaches a byte that nothing has written (log entry 2).
  Safe: the model stops where hardware would read some byte. -/
  | fetchUnwritten (c : CoreId) (pc : Addr)
deriving DecidableEq, Repr

/-- Why a step gives no meaning. -/
inductive Refusal
  /-- Raised by an arm of `exec` that has no meaning yet. Safe. -/
  | notModelled (mnemonic : String)
  /-- Raised by RDMSR and WRMSR for an MSR number outside C001_0000h to C001_0007h (R104). Safe: R104 gives no
  meaning and claims no fault. -/
  | msrOutsidePmu (c : CoreId) (number : Reg)
  /-- Raised by the fetch of `step` for bytes that are no instruction of the spec, prefixed forms among them (R5, R91):
  the byte that starts none. Safe. -/
  | notInSpec (c : CoreId) (b : Byte)
  /-- Raised by the fetch of `step` for 0Fh followed by a byte that is none of the three opcodes of R90. Safe. -/
  | notInSpec0F (c : CoreId) (b : Byte)
deriving DecidableEq, Repr

/-- One counter with its event-select register, edge-detector memory and outputs. -/
structure Counter where
  /-- `PerfEvtSel[i]`, 32 stored bits (R31). -/
  sel : SelWord
  /-- `PerfCtr[i]`, 48 bits (R25). -/
  ctr : Count48
  /-- `Prev[i]`, the last sample of the edge detector (R45). -/
  prev : Bool
  /-- `PmPin[i]`, the performance-monitor pin (R46). -/
  pin : Bool
  /-- The ticks at which `request_interrupt(core, i)` was emitted to the APIC port, newest first (R144, R310). -/
  irqs : List Nat
deriving DecidableEq, Repr

/-- A `#GP` that an access instruction of the core has raised and that the exception mechanism has not picked up:
its error code and the pc of the instruction (R316, R318). -/
structure Raised where
  errorCode : Nat
  pc : Addr
deriving DecidableEq, Repr

/-- One core (R20, R326): its interface registers and mode inputs (R21 to R23, R49, R112) and its PMU. -/
structure Core where
  eax : Reg
  ecx : Reg
  edx : Reg
  /-- The address of the next instruction (R101). -/
  pc : Addr
  /-- The current privilege level, 0 to 3 (R23, R320). -/
  cpl : BitVec 2
  /-- Whether RDPMC may run at CPL > 0 (R112). -/
  pce : Bool
  /-- The core is in a halted state (R49). -/
  halted : Bool
  /-- The exception raised and not yet picked up (R318). -/
  raised : Option Raised
  /-- The tick number `t` of the core's clock (R133). -/
  clock : Nat
  /-- A WRMSR step of this core has had no tick since; another WRMSR must wait (R12, R353). -/
  wrmsrSinceTick : Bool
  counter0 : Counter
  counter1 : Counter
  counter2 : Counter
  counter3 : Counter
deriving DecidableEq, Repr

/-- The machine. -/
structure State where
  /-- The parameters of R7; written by no step. -/
  part : Part
  core0 : Core
  core1 : Core
  /-- The memory the instruction bytes lie in: (address, byte) pairs, addresses strictly rising (R90; log entry 2). -/
  mem : List Host.Cell
  /-- The turns already arranged, next first; when there is none the turn is free (R75; log entry 6). -/
  agenda : List Turn
  /-- How many free values have been drawn; the model's own field (log entry 11). -/
  draws : Nat
  /-- The core that the step at hand works for; the model's own field (log entry 9). -/
  acting : CoreId
  /-- The counter `i` that the counter logic is stepping; the model's own field (log entry 9). -/
  target : CtrId
deriving DecidableEq, Repr

/-- A counter after reset: the family's zeros for the two registers (log entry 3), and zeros the model names for `Prev`
and the pin (log entry 4). -/
def Counter.reset : Counter where
  sel := 0
  ctr := 0
  prev := false
  pin := false
  irqs := []

/-- A core after reset: log entries 3 (pc, cpl, pce) and 4 (the interface registers, halted). -/
def Core.reset : Core where
  eax := 0
  ecx := 0
  edx := 0
  pc := 0xFFF0
  cpl := 0
  pce := false
  halted := false
  raised := none
  clock := 0
  wrmsrSinceTick := false
  counter0 := Counter.reset
  counter1 := Counter.reset
  counter2 := Counter.reset
  counter3 := Counter.reset

/-- The machine right after reset (R50, R340): the spec's default event set (R7, U1; log entry 5), no memory listed, nothing
arranged. -/
def State.reset : State where
  part := { Config.part with eventSet := specEventSet }
  core0 := Core.reset
  core1 := Core.reset
  mem := []
  agenda := []
  draws := 0
  acting := .core0
  target := .ctr0

end Sys2Proof.Machine
end

