-- ==== Sys2Proof/Machine/Ops.lean ====
section
/-! DEFINITION. The named operations over cores, counters, interface registers and memory, and the raising of an
exception (R316, R318). -/

namespace Sys2Proof.Machine

/-- What a meaning answers. -/
abbrev Res := Host.Outcome State Fault Refusal

/-- Go on with `f` where `o` gives a next state. -/
def Res.andThen (o : Res) (f : State → Res) : Res :=
  match o with
  | .next s => f s
  | .fault r => .fault r
  | .refused r => .refused r

/-! ### Cores and counters -/

/-- The core `c`. -/
def State.core (s : State) : CoreId → Core
  | .core0 => s.core0
  | .core1 => s.core1

/-- The machine with core `c` replaced. -/
def State.setCore (s : State) (c : CoreId) (x : Core) : State :=
  match c with
  | .core0 => { s with core0 := x }
  | .core1 => { s with core1 := x }

/-- Counter `i` of a core. -/
def Core.counter (x : Core) : CtrId → Counter
  | .ctr0 => x.counter0
  | .ctr1 => x.counter1
  | .ctr2 => x.counter2
  | .ctr3 => x.counter3

/-- The core with counter `i` replaced. -/
def Core.setCounter (x : Core) (i : CtrId) (k : Counter) : Core :=
  match i with
  | .ctr0 => { x with counter0 := k }
  | .ctr1 => { x with counter1 := k }
  | .ctr2 => { x with counter2 := k }
  | .ctr3 => { x with counter3 := k }

/-- The core that the step at hand works for. -/
def State.cur (s : State) : Core := s.core s.acting

/-- The machine with the acting core replaced. -/
def State.setCur (s : State) (x : Core) : State := s.setCore s.acting x

/-- The step at hand works for core `c`. -/
def State.actFor (s : State) (c : CoreId) : State := { s with acting := c }

/-- The step at hand works for counter `i` of core `c`. -/
def State.aimAt (s : State) (c : CoreId) (i : CtrId) : State := { s with acting := c, target := i }

/-- The core exists: the second one only on a dual-core part (R326). -/
def State.hasCore (s : State) : CoreId → Bool
  | .core0 => true
  | .core1 => s.part.numCores == .two

/-! ### Interface registers (R21) and the program counter (R101) -/

/-- The interface register `r`. -/
def Core.reg (x : Core) : IfReg → Reg
  | .eax => x.eax
  | .ecx => x.ecx
  | .edx => x.edx

/-- The core with the interface register `r` written. -/
def Core.setReg (x : Core) (r : IfReg) (v : Reg) : Core :=
  match r with
  | .eax => { x with eax := v }
  | .ecx => { x with ecx := v }
  | .edx => { x with edx := v }

/-- `pc <- pc + n`; an access instruction is two bytes long (R101). -/
def Core.advance (x : Core) (n : Nat) : Core := { x with pc := x.pc + BitVec.ofNat 64 n }

/-! ### Taking an exception -/

/-- `raise GP(0)` (R316, R318): the instruction step ends with this outcome, error code 0 and the pc of the
instruction, and writes nothing. -/
def raiseGP (s : State) : Res := .fault (.generalProtection s.acting 0 s.cur.pc)

/-- What a core holds when its access instruction has raised a `#GP`: the error code and the pc recorded, all else as
it was. The core executes no instruction until the environment picks the exception up (R318; log entry 8). -/
def State.recordGP (s : State) (c : CoreId) (errorCode : Nat) (pc : Addr) : State :=
  s.setCore c { s.core c with raised := some { errorCode := errorCode, pc := pc } }

/-- The exception mechanism, or an interrupt, takes core `c` to a handler at the privilege level `l`. Everything
else that it does is outside the spec (R312, R318); the PMU is as it was. -/
def State.deliver (s : State) (c : CoreId) (handler : Addr) (l : BitVec 2) : State :=
  s.setCore c { s.core c with raised := none, pc := handler, cpl := l }

/-! ### Memory: the bytes instructions lie in (R90; log entry 2) -/

/-- One byte of memory; a byte that nothing has written has no value. -/
def memRead (m : List Host.Cell) (a : Nat) : Option Byte :=
  match m with
  | [] => none
  | (b, v) :: rest => if a = b then some v else memRead rest a

/-- Write one byte, keeping the addresses strictly rising. -/
def memWrite (m : List Host.Cell) (a : Nat) (v : Byte) : List Host.Cell :=
  match m with
  | [] => [(a, v)]
  | (b, w) :: rest =>
    if a < b then (a, v) :: (b, w) :: rest
    else if a = b then (a, v) :: rest
    else (b, w) :: memWrite rest a v

/-- Every address listed is above `lo` and the addresses rise strictly. -/
def risesFrom (lo : Nat) : List Host.Cell → Bool
  | [] => true
  | (a, _) :: rest => decide (lo ≤ a) && risesFrom (a + 1) rest

/-- The canonical form of memory: addresses strictly rising and inside the 64-bit address space. No byte equals what
an unlisted address reads as, since that is no value. -/
def memWf (m : List Host.Cell) : Bool :=
  risesFrom 0 m && m.all (fun c => decide (c.1 < 2 ^ 64))

/-- The bytes at `pc`, `pc + 1`, … up to `n` of them or up to the first that nothing has written. -/
def fetchBytes (m : List Host.Cell) (pc : Addr) : Nat → List Byte
  | 0 => []
  | n + 1 =>
    match memRead m pc.toNat with
    | some b => b :: fetchBytes m (pc + 1) n
    | none => []

end Sys2Proof.Machine
end

