-- ==== Sys2Proof/Machine/Flags.lean ====
section
/-! DEFINITION. The one-bit signals of the counter logic and the increment (spec/41_counting.md R134 to R147). The
machine has no flags: no instruction reads or writes one (R23, R114). -/

namespace Sys2Proof.Machine

/-- `cond` of R136: the masked, possibly inverted condition of the clock, which is also what the edge detector
samples. -/
def condition (f : EvtCtl) (n : Occ) : Bool :=
  if f.cntMask.toNat = 0 then decide (1 ≤ n.val)
  else if f.inv then decide (n.val < f.cntMask.toNat)
  else decide (f.cntMask.toNat ≤ n.val)

/-- `level_inc` of R136: with CNT_MASK 0 the number of events, else 1 where the condition holds. -/
def levelInc (f : EvtCtl) (n : Occ) : Nat :=
  if f.cntMask.toNat = 0 then n.val else (condition f n).toNat

/-- `edge_inc` of R138: the condition holds now and did not at the last tick. -/
def edgeInc (f : EvtCtl) (n : Occ) (prev : Bool) : Nat := (condition f n && !prev).toNat

/-- `priv_ok` of R134: USR passes CPL > 0, OS passes CPL 0. -/
def privOk (f : EvtCtl) (cpl : BitVec 2) : Bool := if cpl = 0 then f.os else f.usr

/-- `inc` of R141: nothing unless the counter is enabled and the privilege filter passes. -/
def increment (f : EvtCtl) (cpl : BitVec 2) (n : Occ) (prev : Bool) : Nat :=
  if f.en && privOk f cpl then (if f.e then edgeInc f n prev else levelInc f n) else 0

/-- `ovf` of R142: the increment carries out of bit 47. -/
def overflows (ctr : Count48) (inc : Nat) : Bool := decide (2 ^ 48 ≤ ctr.toNat + inc)

/-- The counter after the increment: the sum modulo `2^48` (R141). -/
def sumMod (ctr : Count48) (inc : Nat) : Count48 := BitVec.ofNat 48 (ctr.toNat + inc)

/-- Whether the pin toggles (R146): with PC on an overflow, without it on any increment, once. -/
def pinToggles (f : EvtCtl) (ctr : Count48) (inc : Nat) : Bool :=
  if f.pc then overflows ctr inc else decide (0 < inc)

end Sys2Proof.Machine
end

