-- ==== Sys2Proof/Machine/Counting.lean ====
section
/-! DEFINITION. The step of one counter at one tick (spec/41_counting.md R148), the reserved selections (R150) and the
dual-core Northbridge rule (spec/60_exceptions.md R325). -/

namespace Sys2Proof.Machine

/-- How a counter takes a tick. -/
inductive CountMode
  /-- By rules R133 to R147. -/
  | specified
  /-- Reserved or in conflict while enabled: counter, request, pin and `Prev` are free values (R150, R325). -/
  | free
  /-- Reserved while disabled: only `Prev` is a free value (R148). -/
  | freePrev
deriving DecidableEq, Repr

/-- `nbsel(c, i)`: the counter selects a Northbridge event, whatever EN is (R325). -/
def Core.nbSel (x : Core) (i : CtrId) : Bool := isNb (eventSelectOf (x.counter i).sel)

/-- The core selects a Northbridge event on some counter. -/
def Core.nbAny (x : Core) : Bool := CtrId.all.any (fun i => x.nbSel i)

/-- Counter `i` of core `c`, selecting `es`, falls under the dual-core rule R325: the other core has a Northbridge
event on its counter `i`, or both cores have Northbridge events and this counter is one of them. -/
def nbConflict (s : State) (c : CoreId) (i : CtrId) (es : BitVec 8) : Bool :=
  s.part.numCores == .two &&
    ((s.core c.other).nbSel i || (isNb es && (s.core c.other).nbAny))

/-- How the counter at hand takes the tick when it runs the word `f` of the event `info` (R148, R325). -/
def countMode (s : State) (info : EventInfo) (f : EvtCtl) : CountMode :=
  if reservedSel s.part info.select f then (if f.en then .free else .freePrev)
  else if f.en && nbConflict s s.acting s.target info.select then .free
  else .specified

/-- The counter register after the tick. -/
def nextCtr (mode : CountMode) (f : EvtCtl) (cpl : BitVec 2) (n : Occ) (d : Nat) (k : Counter) : Count48 :=
  match mode with
  | .specified => sumMod k.ctr (increment f cpl n k.prev)
  | .free => Config.freeCtr d
  | .freePrev => k.ctr

/-- `Prev[i]` after the tick: the condition, whatever EN, E and the privilege level are (R138). -/
def nextPrev (mode : CountMode) (f : EvtCtl) (n : Occ) (d : Nat) : Bool :=
  match mode with
  | .specified => condition f n
  | .free => Config.freePrev d
  | .freePrev => Config.freePrev d

/-- `PmPin[i]` after the tick (R146). -/
def nextPin (mode : CountMode) (f : EvtCtl) (cpl : BitVec 2) (n : Occ) (d : Nat) (k : Counter) : Bool :=
  match mode with
  | .specified => k.pin ^^ pinToggles f k.ctr (increment f cpl n k.prev)
  | .free => k.pin ^^ Config.freePin d
  | .freePrev => k.pin

/-- Whether the tick emits `request_interrupt(core, i)` (R144). -/
def requests (mode : CountMode) (f : EvtCtl) (cpl : BitVec 2) (n : Occ) (d : Nat) (k : Counter) : Bool :=
  match mode with
  | .specified => f.int && overflows k.ctr (increment f cpl n k.prev)
  | .free => f.int && Config.freeIrq d
  | .freePrev => false

/-- The whole step of one counter (R148): `cpl` the privilege level, `n` the event count, `t` the tick number, `d` the
number of the free value. PerfEvtSel is never written (R131). -/
def Counter.ticked (k : Counter) (mode : CountMode) (f : EvtCtl) (cpl : BitVec 2) (n : Occ) (t d : Nat) : Counter where
  sel := k.sel
  ctr := nextCtr mode f cpl n d k
  prev := nextPrev mode f n d
  pin := nextPin mode f cpl n d k
  irqs := if requests mode f cpl n d k then t :: k.irqs else k.irqs

/-- Free values used by one step of a counter. -/
def CountMode.draws : CountMode → Nat
  | .specified => 0
  | .free => 1
  | .freePrev => 1

/-- The machine after the step of the counter at hand. -/
def State.count (s : State) (mode : CountMode) (f : EvtCtl) (n : Occ) : State :=
  { s.setCur (s.cur.setCounter s.target
      ((s.cur.counter s.target).ticked mode f s.cur.cpl n s.cur.clock s.draws)) with
    draws := s.draws + mode.draws }

/-- `EventOracle(core, t, es, um)` for the counter at hand, within the limits of R9 and R133. -/
def State.sample (s : State) (info : EventInfo) (f : EvtCtl) : Occ :=
  eventCount s.part info f.unitMask
    (Config.eventOracle s.acting s.cur.clock info.select (oracleMask s.part info.select f.unitMask))

/-- The meaning of an event word: the step of R148 of the counter at hand. -/
def countEvent (info : EventInfo) (f : EvtCtl) (s : State) : Res :=
  .next (s.count (countMode s info f) f (s.sample info f))

/-- The step of R148 of the counter at hand when its word decodes to no event word: EVENT_SELECT `es` is one that the
event map does not list, reserved unless the part's event set defines it (R87, R7 `EventSet`). -/
def countUnlisted (es : BitVec 8) (f : EvtCtl) (s : State) : Res := countEvent (unlistedEvent es) f s

/-- The event that a stored word selects: the catalogue's, or one without description. -/
def selectedEvent (w : SelWord) : EventInfo :=
  match decodeSel w with
  | .ok ins =>
    match eventOf ins with
    | some (info, _) => info
    | none => unlistedEvent (eventSelectOf w)
  | .error _ => unlistedEvent (eventSelectOf w)

end Sys2Proof.Machine
end

