-- ==== Sys2Proof/Machine/EventsFpLsDc.lean ====
section
/-! DEFINITION. The meanings of the event words of the floating-point unit, the load/store unit and the data cache (spec/42_events_fpu_ls_dc.md).
Every one is the step of R148 for its own catalogue entry: an event rule "defines no state change: the state change is
`41_counting.md` rule R148" (R200), and what it fixes is which UNIT_MASK bits and revisions are defined and the range
of the oracle value. -/

namespace Sys2Proof.Machine

/-- Event 00h, Dispatched FPU Operations (R201, R148). -/
def execEvt00 (f : EvtCtl) (s : State) : Res := countEvent evt00 f s

/-- Event 01h, Cycles with no FPU Ops Retired (R202, R148). -/
def execEvt01 (f : EvtCtl) (s : State) : Res := countEvent evt01 f s

/-- Event 02h, Dispatched Fast Flag FPU Operations (R203, R148). -/
def execEvt02 (f : EvtCtl) (s : State) : Res := countEvent evt02 f s

/-- Event 20h, Segment Register Loads (R204, R148). -/
def execEvt20 (f : EvtCtl) (s : State) : Res := countEvent evt20 f s

/-- Event 21h, Pipeline Restart Due to Self-Modifying Code (R205, R148). -/
def execEvt21 (f : EvtCtl) (s : State) : Res := countEvent evt21 f s

/-- Event 22h, Pipeline Restart Due to Probe Hit (R206, R148). -/
def execEvt22 (f : EvtCtl) (s : State) : Res := countEvent evt22 f s

/-- Event 23h, LS Buffer 2 Full (R207, R148). -/
def execEvt23 (f : EvtCtl) (s : State) : Res := countEvent evt23 f s

/-- Event 24h, Locked Operations (R208, R148). -/
def execEvt24 (f : EvtCtl) (s : State) : Res := countEvent evt24 f s

/-- Event 40h, Data Cache Accesses (R210, R148). -/
def execEvt40 (f : EvtCtl) (s : State) : Res := countEvent evt40 f s

/-- Event 41h, Data Cache Misses (R211, R148). -/
def execEvt41 (f : EvtCtl) (s : State) : Res := countEvent evt41 f s

/-- Event 42h, Data Cache Refills from L2 or System (R212, R148). -/
def execEvt42 (f : EvtCtl) (s : State) : Res := countEvent evt42 f s

/-- Event 43h, Data Cache Refills from System (R213, R148). -/
def execEvt43 (f : EvtCtl) (s : State) : Res := countEvent evt43 f s

/-- Event 44h, Data Cache Lines Evicted (R214, R148). -/
def execEvt44 (f : EvtCtl) (s : State) : Res := countEvent evt44 f s

/-- Event 45h, L1 DTLB Miss and L2 DTLB Hit (R215, R148). -/
def execEvt45 (f : EvtCtl) (s : State) : Res := countEvent evt45 f s

/-- Event 46h, L1 DTLB and L2 DTLB Miss (R216, R148). -/
def execEvt46 (f : EvtCtl) (s : State) : Res := countEvent evt46 f s

/-- Event 47h, Misaligned Accesses (R217, R148). -/
def execEvt47 (f : EvtCtl) (s : State) : Res := countEvent evt47 f s

/-- Event 48h, Microarchitectural Late Cancel of an Access (R218, R148). -/
def execEvt48 (f : EvtCtl) (s : State) : Res := countEvent evt48 f s

/-- Event 49h, Microarchitectural Early Cancel of an Access (R219, R148). -/
def execEvt49 (f : EvtCtl) (s : State) : Res := countEvent evt49 f s

/-- Event 4Ah, Single-bit ECC Errors Recorded by Scrubber (R220, R148). -/
def execEvt4A (f : EvtCtl) (s : State) : Res := countEvent evt4A f s

/-- Event 4Bh, Prefetch Instructions Dispatched (R221, R148). -/
def execEvt4B (f : EvtCtl) (s : State) : Res := countEvent evt4B f s

/-- Event 4Ch, DCACHE Misses by Locked Instructions (R222, R148). -/
def execEvt4C (f : EvtCtl) (s : State) : Res := countEvent evt4C f s

/-- Event 65h, Memory Requests by Type (R209, R148). -/
def execEvt65 (f : EvtCtl) (s : State) : Res := countEvent evt65 f s

end Sys2Proof.Machine
end

