-- ==== Sys2Proof/Machine/EventsL2IcEx.lean ====
section
/-! DEFINITION. The meanings of the event words of the L2 cache and system interface, the instruction cache and the execution unit (spec/43_events_l2_ic_ex.md).
Every one is the step of R148 for its own catalogue entry: an event rule "defines no state change: the state change is
`41_counting.md` rule R148" (R200), and what it fixes is which UNIT_MASK bits and revisions are defined and the range
of the oracle value. -/

namespace Sys2Proof.Machine

/-- Event 26h, Retired CLFLUSH Instructions (R247, R148). -/
def execEvt26 (f : EvtCtl) (s : State) : Res := countEvent evt26 f s

/-- Event 27h, Retired CPUID Instructions (R248, R148). -/
def execEvt27 (f : EvtCtl) (s : State) : Res := countEvent evt27 f s

/-- Event 67h, Data Prefetcher (R231, R148). -/
def execEvt67 (f : EvtCtl) (s : State) : Res := countEvent evt67 f s

/-- Event 6Ch, System Read Responses by Coherency State (R232, R148). -/
def execEvt6C (f : EvtCtl) (s : State) : Res := countEvent evt6C f s

/-- Event 6Dh, Quadwords Written to System (R233, R148). -/
def execEvt6D (f : EvtCtl) (s : State) : Res := countEvent evt6D f s

/-- Event 76h, CPU Clocks not Halted (R249, R148). -/
def execEvt76 (f : EvtCtl) (s : State) : Res := countEvent evt76 f s

/-- Event 7Dh, Requests to L2 Cache (R234, R148). -/
def execEvt7D (f : EvtCtl) (s : State) : Res := countEvent evt7D f s

/-- Event 7Eh, L2 Cache Misses (R235, R148). -/
def execEvt7E (f : EvtCtl) (s : State) : Res := countEvent evt7E f s

/-- Event 7Fh, L2 Fill/Writeback (R236, R148). -/
def execEvt7F (f : EvtCtl) (s : State) : Res := countEvent evt7F f s

/-- Event 80h, Instruction Cache Fetches (R237, R148). -/
def execEvt80 (f : EvtCtl) (s : State) : Res := countEvent evt80 f s

/-- Event 81h, Instruction Cache Misses (R238, R148). -/
def execEvt81 (f : EvtCtl) (s : State) : Res := countEvent evt81 f s

/-- Event 82h, Instruction Cache Refills from L2 (R239, R148). -/
def execEvt82 (f : EvtCtl) (s : State) : Res := countEvent evt82 f s

/-- Event 83h, Instruction Cache Refills from System (R240, R148). -/
def execEvt83 (f : EvtCtl) (s : State) : Res := countEvent evt83 f s

/-- Event 84h, L1 ITLB Miss, L2 ITLB Hit (R241, R148). -/
def execEvt84 (f : EvtCtl) (s : State) : Res := countEvent evt84 f s

/-- Event 85h, L1 ITLB Miss, L2 ITLB Miss (R242, R148). -/
def execEvt85 (f : EvtCtl) (s : State) : Res := countEvent evt85 f s

/-- Event 86h, Pipeline Restart Due to Instruction Stream Probe (R243, R148). -/
def execEvt86 (f : EvtCtl) (s : State) : Res := countEvent evt86 f s

/-- Event 87h, Instruction Fetch Stall (R244, R148). -/
def execEvt87 (f : EvtCtl) (s : State) : Res := countEvent evt87 f s

/-- Event 88h, Return Stack Hits (R245, R148). -/
def execEvt88 (f : EvtCtl) (s : State) : Res := countEvent evt88 f s

/-- Event 89h, Return Stack Overflows (R246, R148). -/
def execEvt89 (f : EvtCtl) (s : State) : Res := countEvent evt89 f s

/-- Event C0h, Retired Instructions (R250, R148). -/
def execEvtC0 (f : EvtCtl) (s : State) : Res := countEvent evtC0 f s

/-- Event C1h, Retired uops (R251, R148). -/
def execEvtC1 (f : EvtCtl) (s : State) : Res := countEvent evtC1 f s

/-- Event C2h, Retired Branch Instructions (R252, R148). -/
def execEvtC2 (f : EvtCtl) (s : State) : Res := countEvent evtC2 f s

/-- Event C3h, Retired Mispredicted Branch Instructions (R253, R148). -/
def execEvtC3 (f : EvtCtl) (s : State) : Res := countEvent evtC3 f s

/-- Event C4h, Retired Taken Branch Instructions (R254, R148). -/
def execEvtC4 (f : EvtCtl) (s : State) : Res := countEvent evtC4 f s

/-- Event C5h, Retired Taken Branch Instructions Mispredicted (R255, R148). -/
def execEvtC5 (f : EvtCtl) (s : State) : Res := countEvent evtC5 f s

/-- Event C6h, Retired Far Control Transfers (R256, R148). -/
def execEvtC6 (f : EvtCtl) (s : State) : Res := countEvent evtC6 f s

/-- Event C7h, Retired Branch Resyncs (R257, R148). -/
def execEvtC7 (f : EvtCtl) (s : State) : Res := countEvent evtC7 f s

/-- Event C8h, Retired Near Returns (R258, R148). -/
def execEvtC8 (f : EvtCtl) (s : State) : Res := countEvent evtC8 f s

/-- Event C9h, Retired Near Returns Mispredicted (R259, R148). -/
def execEvtC9 (f : EvtCtl) (s : State) : Res := countEvent evtC9 f s

/-- Event CAh, Retired Indirect Branches Mispredicted (R260, R148). -/
def execEvtCA (f : EvtCtl) (s : State) : Res := countEvent evtCA f s

/-- Event CBh, Retired MMX/FP Instructions (R261, R148). -/
def execEvtCB (f : EvtCtl) (s : State) : Res := countEvent evtCB f s

/-- Event CCh, Retired Fastpath Double op Instructions (R262, R148). -/
def execEvtCC (f : EvtCtl) (s : State) : Res := countEvent evtCC f s

/-- Event CDh, Interrupts-Masked Cycles (R263, R148). -/
def execEvtCD (f : EvtCtl) (s : State) : Res := countEvent evtCD f s

/-- Event CEh, Interrupts-Masked Cycles with Interrupt Pending (R264, R148). -/
def execEvtCE (f : EvtCtl) (s : State) : Res := countEvent evtCE f s

/-- Event CFh, Interrupts Taken (R265, R148). -/
def execEvtCF (f : EvtCtl) (s : State) : Res := countEvent evtCF f s

/-- Event D0h, Decoder Empty (R266, R148). -/
def execEvtD0 (f : EvtCtl) (s : State) : Res := countEvent evtD0 f s

/-- Event D1h, Dispatch Stalls (R267, R148). -/
def execEvtD1 (f : EvtCtl) (s : State) : Res := countEvent evtD1 f s

/-- Event D2h, Dispatch Stall for Branch Abort to Retire (R268, R148). -/
def execEvtD2 (f : EvtCtl) (s : State) : Res := countEvent evtD2 f s

/-- Event D3h, Dispatch Stall for Serialization (R269, R148). -/
def execEvtD3 (f : EvtCtl) (s : State) : Res := countEvent evtD3 f s

/-- Event D4h, Dispatch Stall for Segment Load (R270, R148). -/
def execEvtD4 (f : EvtCtl) (s : State) : Res := countEvent evtD4 f s

/-- Event D5h, Dispatch Stall for Reorder Buffer Full (R271, R148). -/
def execEvtD5 (f : EvtCtl) (s : State) : Res := countEvent evtD5 f s

/-- Event D6h, Dispatch Stall for Reservation Station Full (R272, R148). -/
def execEvtD6 (f : EvtCtl) (s : State) : Res := countEvent evtD6 f s

/-- Event D7h, Dispatch Stall for FPU Full (R273, R148). -/
def execEvtD7 (f : EvtCtl) (s : State) : Res := countEvent evtD7 f s

/-- Event D8h, Dispatch Stall for LS Full (R274, R148). -/
def execEvtD8 (f : EvtCtl) (s : State) : Res := countEvent evtD8 f s

/-- Event D9h, Dispatch Stall Waiting for All Quiet (R275, R148). -/
def execEvtD9 (f : EvtCtl) (s : State) : Res := countEvent evtD9 f s

/-- Event DAh, Dispatch Stall for Far Transfer or Resync to Retire (R276, R148). -/
def execEvtDA (f : EvtCtl) (s : State) : Res := countEvent evtDA f s

/-- Event DBh, FPU Exceptions (R277, R148). -/
def execEvtDB (f : EvtCtl) (s : State) : Res := countEvent evtDB f s

/-- Event DCh, DR0 Breakpoint Matches (R278, R148). -/
def execEvtDC (f : EvtCtl) (s : State) : Res := countEvent evtDC f s

/-- Event DDh, DR1 Breakpoint Matches (R279, R148). -/
def execEvtDD (f : EvtCtl) (s : State) : Res := countEvent evtDD f s

/-- Event DEh, DR2 Breakpoint Matches (R280, R148). -/
def execEvtDE (f : EvtCtl) (s : State) : Res := countEvent evtDE f s

/-- Event DFh, DR3 Breakpoint Matches (R281, R148). -/
def execEvtDF (f : EvtCtl) (s : State) : Res := countEvent evtDF f s

end Sys2Proof.Machine
end

