-- ==== Sys2Proof/Machine/EventsNb.lean ====
section
/-! DEFINITION. The meanings of the event words of the memory controller and the HyperTransport interface (the Northbridge events, R290) (spec/44_events_nb.md).
Every one is the step of R148 for its own catalogue entry: an event rule "defines no state change: the state change is
`41_counting.md` rule R148" (R200), and what it fixes is which UNIT_MASK bits and revisions are defined and the range
of the oracle value. -/

namespace Sys2Proof.Machine

/-- Event E0h, DRAM Accesses (R291, R148). -/
def execEvtE0 (f : EvtCtl) (s : State) : Res := countEvent evtE0 f s

/-- Event E1h, Memory Controller Page Table Overflows (R292, R148). -/
def execEvtE1 (f : EvtCtl) (s : State) : Res := countEvent evtE1 f s

/-- Event E3h, Memory Controller Turnarounds (R293, R148). -/
def execEvtE3 (f : EvtCtl) (s : State) : Res := countEvent evtE3 f s

/-- Event E4h, Memory Controller Bypass Counter Saturation (R294, R148). -/
def execEvtE4 (f : EvtCtl) (s : State) : Res := countEvent evtE4 f s

/-- Event E5h, Sized Blocks (R295, R148). -/
def execEvtE5 (f : EvtCtl) (s : State) : Res := countEvent evtE5 f s

/-- Event E8h, ECC Errors (R296, R148). -/
def execEvtE8 (f : EvtCtl) (s : State) : Res := countEvent evtE8 f s

/-- Event E9h, CPU/IO Requests to Memory/IO (R298, R148). -/
def execEvtE9 (f : EvtCtl) (s : State) : Res := countEvent evtE9 f s

/-- Event EAh, Cache Block Commands (R299, R148). -/
def execEvtEA (f : EvtCtl) (s : State) : Res := countEvent evtEA f s

/-- Event EBh, Sized Commands (R300, R148). -/
def execEvtEB (f : EvtCtl) (s : State) : Res := countEvent evtEB f s

/-- Event ECh, Probe Responses and Upstream Requests (R301, R148). -/
def execEvtEC (f : EvtCtl) (s : State) : Res := countEvent evtEC f s

/-- Event EEh, GART Events (R302, R148). -/
def execEvtEE (f : EvtCtl) (s : State) : Res := countEvent evtEE f s

/-- Event F6h, HyperTransport Link 0 Transmit Bandwidth (R304, R148). -/
def execEvtF6 (f : EvtCtl) (s : State) : Res := countEvent evtF6 f s

/-- Event F7h, HyperTransport Link 1 Transmit Bandwidth (R305, R148). -/
def execEvtF7 (f : EvtCtl) (s : State) : Res := countEvent evtF7 f s

/-- Event F8h, HyperTransport Link 2 Transmit Bandwidth (R306, R148). -/
def execEvtF8 (f : EvtCtl) (s : State) : Res := countEvent evtF8 f s

end Sys2Proof.Machine
end

