-- ==== Sys2Proof/Machine/Operands.lean ====
section
/-! DEFINITION. The operand forms of the access instructions: the value in EDX:EAX (R63), the MSR number in ECX (R61,
R27, R30), the counter index in ECX (R61, R110), and the value software loads for an overflow after `N` increments
(R82). -/

namespace Sys2Proof.Machine

/-- `EDX ++ EAX`, the 64-bit operand of WRMSR: EDX is bits 63–32 (R63, R105). -/
def Core.edxEax (x : Core) : MsrValue := x.edx ++ x.eax

/-- `EDX <- v[63:32]`, `EAX <- v[31:0]` (R102, R110). -/
def Core.loadEdxEax (x : Core) (v : MsrValue) : Core :=
  { x with edx := v.extractLsb' 32 32, eax := v.extractLsb' 0 32 }

/-- A counter's index as a number (R16). -/
def ctrNumber : CtrId → Nat
  | .ctr0 => 0
  | .ctr1 => 1
  | .ctr2 => 2
  | .ctr3 => 3

/-- The eight registers of the MSR space (R61). -/
inductive MsrReg
  /-- `PerfEvtSel[i]`. -/
  | evtSel (i : CtrId)
  /-- `PerfCtr[i]`. -/
  | ctr (i : CtrId)
deriving DecidableEq, Repr

/-- The MSR number of a register: `C001_0000h + i` (R30) or `C001_0004h + i` (R27). -/
def msrNumber : MsrReg → Reg
  | .evtSel i => 0xC0010000 + BitVec.ofNat 32 (ctrNumber i)
  | .ctr i => 0xC0010004 + BitVec.ofNat 32 (ctrNumber i)

/-- The eight registers in the order of their numbers. -/
def msrRegs : List MsrReg := CtrId.all.map MsrReg.evtSel ++ CtrId.all.map MsrReg.ctr

/-- The PMU register that an MSR number names, if any (R61, R104). -/
def msrReg (a : Reg) : Option MsrReg := msrRegs.find? (fun r => msrNumber r == a)

/-- The counter that an RDPMC index names, if any; all 32 bits of the index are compared (R110, R111). -/
def pmcIndex (a : Reg) : Option CtrId := CtrId.all.find? (fun i => BitVec.ofNat 32 (ctrNumber i) == a)

/-- `MSR[a]`: the 64-bit value a register presents on a read, zero above its stored bits (R24, R31). -/
def Core.readMsr (x : Core) : MsrReg → MsrValue
  | .evtSel i => (x.counter i).sel.setWidth 64
  | .ctr i => (x.counter i).ctr.setWidth 64

/-- `write_ctr(i, v)`: bits 63–48 are dropped (R106); and `write_evtsel(i, v)`: bits 63–32 are dropped (R107). Neither
touches `Prev`, the pin or the requests (R108, R109). -/
def Core.writeMsr (x : Core) (r : MsrReg) (v : MsrValue) : Core :=
  match r with
  | .evtSel i => x.setCounter i { x.counter i with sel := v.setWidth 32 }
  | .ctr i => x.setCounter i { x.counter i with ctr := v.setWidth 48 }

/-- The count to load for an overflow after `n` increments of 1: the 48-bit two's complement of `n` (R82). -/
def preload (n : Nat) : Count48 := -(BitVec.ofNat 48 n)

end Sys2Proof.Machine
end

