-- ==== Sys2Proof/Machine/RegisterAccess.lean ====
section
/-! DEFINITION. The meanings of the register access instructions (spec/40_register_access.md R100 to R115), each a
transcription of its rule's pseudocode. -/

namespace Sys2Proof.Machine

/-- WRMSR (R105): at CPL 0 write EDX:EAX to the PMU register ECX names and go on; it is a WRMSR step, after which
the core has a tick before the next one (R12). `#GP(0)` at CPL > 0 (R103); refused for another MSR (R104). -/
def execWrmsr (s : State) : Res :=
  if s.cur.cpl ≠ 0 then raiseGP s
  else
    match msrReg s.cur.ecx with
    | some r => .next (s.setCur { (s.cur.writeMsr r s.cur.edxEax).advance 2 with wrmsrSinceTick := true })
    | none => .refused (.msrOutsidePmu s.acting s.cur.ecx)

/-- RDMSR (R102): at CPL 0 load EDX:EAX from the PMU register ECX names and go on. `#GP(0)` at CPL > 0 (R103);
refused for another MSR (R104). -/
def execRdmsr (s : State) : Res :=
  if s.cur.cpl ≠ 0 then raiseGP s
  else
    match msrReg s.cur.ecx with
    | some r => .next (s.setCur ((s.cur.loadEdxEax (s.cur.readMsr r)).advance 2))
    | none => .refused (.msrOutsidePmu s.acting s.cur.ecx)

/-- RDPMC (R110): load EDX:EAX from the counter whose index is in ECX and go on. `#GP(0)` at CPL > 0 with `PCE = 0`
(R112) and for an index above 3 (R111). -/
def execRdpmc (s : State) : Res :=
  if s.cur.cpl ≠ 0 ∧ s.cur.pce = false then raiseGP s
  else
    match pmcIndex s.cur.ecx with
    | some i => .next (s.setCur ((s.cur.loadEdxEax (s.cur.readMsr (.ctr i))).advance 2))
    | none => raiseGP s

end Sys2Proof.Machine
end

