-- ==== Sys2Proof/Machine/Dispatch.lean ====
section
/-! DEFINITION. The dispatch of an instruction to its meaning, one arm per constructor. -/

namespace Sys2Proof.Machine

def exec (i : Instr) (s : State) : Host.Outcome State Fault Refusal :=
  match i with
  | .wrmsr => Sys2Proof.Machine.execWrmsr s
  | .rdmsr => Sys2Proof.Machine.execRdmsr s
  | .rdpmc => Sys2Proof.Machine.execRdpmc s
  | .evt00 f => Sys2Proof.Machine.execEvt00 f s
  | .evt01 f => Sys2Proof.Machine.execEvt01 f s
  | .evt02 f => Sys2Proof.Machine.execEvt02 f s
  | .evt20 f => Sys2Proof.Machine.execEvt20 f s
  | .evt21 f => Sys2Proof.Machine.execEvt21 f s
  | .evt22 f => Sys2Proof.Machine.execEvt22 f s
  | .evt23 f => Sys2Proof.Machine.execEvt23 f s
  | .evt24 f => Sys2Proof.Machine.execEvt24 f s
  | .evt26 f => Sys2Proof.Machine.execEvt26 f s
  | .evt27 f => Sys2Proof.Machine.execEvt27 f s
  | .evt40 f => Sys2Proof.Machine.execEvt40 f s
  | .evt41 f => Sys2Proof.Machine.execEvt41 f s
  | .evt42 f => Sys2Proof.Machine.execEvt42 f s
  | .evt43 f => Sys2Proof.Machine.execEvt43 f s
  | .evt44 f => Sys2Proof.Machine.execEvt44 f s
  | .evt45 f => Sys2Proof.Machine.execEvt45 f s
  | .evt46 f => Sys2Proof.Machine.execEvt46 f s
  | .evt47 f => Sys2Proof.Machine.execEvt47 f s
  | .evt48 f => Sys2Proof.Machine.execEvt48 f s
  | .evt49 f => Sys2Proof.Machine.execEvt49 f s
  | .evt4A f => Sys2Proof.Machine.execEvt4A f s
  | .evt4B f => Sys2Proof.Machine.execEvt4B f s
  | .evt4C f => Sys2Proof.Machine.execEvt4C f s
  | .evt65 f => Sys2Proof.Machine.execEvt65 f s
  | .evt67 f => Sys2Proof.Machine.execEvt67 f s
  | .evt6C f => Sys2Proof.Machine.execEvt6C f s
  | .evt6D f => Sys2Proof.Machine.execEvt6D f s
  | .evt76 f => Sys2Proof.Machine.execEvt76 f s
  | .evt7D f => Sys2Proof.Machine.execEvt7D f s
  | .evt7E f => Sys2Proof.Machine.execEvt7E f s
  | .evt7F f => Sys2Proof.Machine.execEvt7F f s
  | .evt80 f => Sys2Proof.Machine.execEvt80 f s
  | .evt81 f => Sys2Proof.Machine.execEvt81 f s
  | .evt82 f => Sys2Proof.Machine.execEvt82 f s
  | .evt83 f => Sys2Proof.Machine.execEvt83 f s
  | .evt84 f => Sys2Proof.Machine.execEvt84 f s
  | .evt85 f => Sys2Proof.Machine.execEvt85 f s
  | .evt86 f => Sys2Proof.Machine.execEvt86 f s
  | .evt87 f => Sys2Proof.Machine.execEvt87 f s
  | .evt88 f => Sys2Proof.Machine.execEvt88 f s
  | .evt89 f => Sys2Proof.Machine.execEvt89 f s
  | .evtC0 f => Sys2Proof.Machine.execEvtC0 f s
  | .evtC1 f => Sys2Proof.Machine.execEvtC1 f s
  | .evtC2 f => Sys2Proof.Machine.execEvtC2 f s
  | .evtC3 f => Sys2Proof.Machine.execEvtC3 f s
  | .evtC4 f => Sys2Proof.Machine.execEvtC4 f s
  | .evtC5 f => Sys2Proof.Machine.execEvtC5 f s
  | .evtC6 f => Sys2Proof.Machine.execEvtC6 f s
  | .evtC7 f => Sys2Proof.Machine.execEvtC7 f s
  | .evtC8 f => Sys2Proof.Machine.execEvtC8 f s
  | .evtC9 f => Sys2Proof.Machine.execEvtC9 f s
  | .evtCA f => Sys2Proof.Machine.execEvtCA f s
  | .evtCB f => Sys2Proof.Machine.execEvtCB f s
  | .evtCC f => Sys2Proof.Machine.execEvtCC f s
  | .evtCD f => Sys2Proof.Machine.execEvtCD f s
  | .evtCE f => Sys2Proof.Machine.execEvtCE f s
  | .evtCF f => Sys2Proof.Machine.execEvtCF f s
  | .evtD0 f => Sys2Proof.Machine.execEvtD0 f s
  | .evtD1 f => Sys2Proof.Machine.execEvtD1 f s
  | .evtD2 f => Sys2Proof.Machine.execEvtD2 f s
  | .evtD3 f => Sys2Proof.Machine.execEvtD3 f s
  | .evtD4 f => Sys2Proof.Machine.execEvtD4 f s
  | .evtD5 f => Sys2Proof.Machine.execEvtD5 f s
  | .evtD6 f => Sys2Proof.Machine.execEvtD6 f s
  | .evtD7 f => Sys2Proof.Machine.execEvtD7 f s
  | .evtD8 f => Sys2Proof.Machine.execEvtD8 f s
  | .evtD9 f => Sys2Proof.Machine.execEvtD9 f s
  | .evtDA f => Sys2Proof.Machine.execEvtDA f s
  | .evtDB f => Sys2Proof.Machine.execEvtDB f s
  | .evtDC f => Sys2Proof.Machine.execEvtDC f s
  | .evtDD f => Sys2Proof.Machine.execEvtDD f s
  | .evtDE f => Sys2Proof.Machine.execEvtDE f s
  | .evtDF f => Sys2Proof.Machine.execEvtDF f s
  | .evtE0 f => Sys2Proof.Machine.execEvtE0 f s
  | .evtE1 f => Sys2Proof.Machine.execEvtE1 f s
  | .evtE3 f => Sys2Proof.Machine.execEvtE3 f s
  | .evtE4 f => Sys2Proof.Machine.execEvtE4 f s
  | .evtE5 f => Sys2Proof.Machine.execEvtE5 f s
  | .evtE8 f => Sys2Proof.Machine.execEvtE8 f s
  | .evtE9 f => Sys2Proof.Machine.execEvtE9 f s
  | .evtEA f => Sys2Proof.Machine.execEvtEA f s
  | .evtEB f => Sys2Proof.Machine.execEvtEB f s
  | .evtEC f => Sys2Proof.Machine.execEvtEC f s
  | .evtEE f => Sys2Proof.Machine.execEvtEE f s
  | .evtF6 f => Sys2Proof.Machine.execEvtF6 f s
  | .evtF7 f => Sys2Proof.Machine.execEvtF7 f s
  | .evtF8 f => Sys2Proof.Machine.execEvtF8 f s

end Sys2Proof.Machine
end

