-- ==== Sys2Proof/Machine/Agents.lean ====
section
/-! DEFINITION. The agents of spec/00_scope.md R8 and what one step of each does: the counter logic's `tick` (R130),
the instruction stream's fetch and execution (R90, R92, R101), and the moves of the environment. `step` calls
`runTurn`. -/

namespace Sys2Proof.Machine

/-! ### The counter logic -/

/-- Counter `i` of core `c` takes the tick (R148): it runs the word in its event-select register. -/
def tickCounter (c : CoreId) (i : CtrId) (s : State) : Res :=
  let s' := s.aimAt c i
  match decodeSel ((s.core c).counter i).sel with
  | .ok ins => exec ins s'
  | .error _ => countUnlisted (eventSelectOf ((s.core c).counter i).sel) (ctlOf ((s.core c).counter i).sel) s'

/-- The end of a tick: the core's clock goes on, and a WRMSR may run again (R12). -/
def endTick (c : CoreId) (s : State) : State :=
  s.setCore c { s.core c with clock := (s.core c).clock + 1, wrmsrSinceTick := false }

/-- `tick(c)`: the four counters of the core are all stepped, in one indivisible step (R130, R65). They are
independent (R151), so their order does not matter. -/
def tick (c : CoreId) (s : State) : Res :=
  (tickCounter c .ctr0 s).andThen fun s0 =>
  (tickCounter c .ctr1 s0).andThen fun s1 =>
  (tickCounter c .ctr2 s1).andThen fun s2 =>
  (tickCounter c .ctr3 s2).andThen fun s3 =>
  .next (endTick c s3)

/-! ### The instruction stream -/

/-- The bytes at the program counter of a core, up to the five of a `mov`. DESIGN CHOICE (log entry 23): the spec leaves
instruction-fetch coherence open (R73, N10); here a fetch reads the one memory of the machine as it is at the step, so a
byte just stored is seen by the next fetch of either core without a synchronising step. -/
def State.window (s : State) (c : CoreId) : List Byte := fetchBytes s.mem (s.core c).pc 5

/-- `mov r32, imm32` of the programs of spec/95_test_vectors.md: it "writes its register and changes no PMU state"
(R92; log entry 14). -/
def execMovImm (r : IfReg) (v : Reg) (s : State) : State :=
  s.setCur ((s.cur.setReg r v).advance 5)

/-- What the machine makes of the outcome of an access instruction: a `#GP` ends the instruction step and is recorded
in the core for the exception mechanism; "the counter logic keeps ticking whatever the core does next" (R318). -/
def catchGP (s : State) (o : Res) : Res :=
  match o with
  | .next s' => .next s'
  | .fault (.generalProtection c code pc) => .next (s.recordGP c code pc)
  | .fault r => .fault r
  | .refused r => .refused r

/-- Why the fetch of core `c` gives no instruction (log entries 2 and 16). -/
def fetchStop (s : State) (c : CoreId) : DecodeError → Res
  | .truncated => .fault (.fetchUnwritten c (s.core c).pc)
  | .notInSpec b => .refused (.notInSpec c b)
  | .notInSpec0F b => .refused (.notInSpec0F c b)
  | .reservedEvent b => .refused (.notInSpec c b)

/-- A WRMSR that must wait: at least one tick of the core lies between two WRMSR steps of it (R12, R353). -/
def mustWait (s : State) (c : CoreId) (i : Instr) : Bool := i == .wrmsr && (s.core c).wrmsrSinceTick

/-- One step of the instruction stream of core `c`. A WRMSR that must wait leaves everything as it was. -/
def runInstr (c : CoreId) (s : State) : Res :=
  match decodeStream (s.window c) with
  | .ok (.access i) =>
    if mustWait s c i then .next s else catchGP (s.actFor c) (exec i (s.actFor c))
  | .ok (.movImm r v) => .next (execMovImm r v (s.actFor c))
  | .error e => fetchStop s c e

/-- A core executes an instruction unless it is absent, halted ("No instruction executes on a halted core", R330) or
has raised an exception that is not picked up (R318). -/
def canRun (s : State) (c : CoreId) : Bool :=
  s.hasCore c && !(s.core c).halted && (s.core c).raised.isNone

/-- The counter logic of a core ticks unless the core is absent or halted (R130, R153). -/
def canTick (s : State) (c : CoreId) : Bool := s.hasCore c && !(s.core c).halted

/-! ### The environment -/

/-- One field of a core that exists changes. -/
def envCore (s : State) (c : CoreId) (f : Core → Core) : State :=
  if s.hasCore c then s.setCore c (f (s.core c)) else s

/-- A move of the environment (R8 agent 4). None touches a PMU register (R131). -/
def applyEnv (m : EnvMove) (s : State) : State :=
  match m with
  | .setCpl c l => envCore s c (fun x => { x with cpl := l })
  | .setHalted c h => envCore s c (fun x => { x with halted := h })
  | .setPce c b => envCore s c (fun x => { x with pce := b })
  | .setReg c r v => envCore s c (fun x => x.setReg r v)
  | .setPc c a => envCore s c (fun x => { x with pc := a })
  | .deliver c h l => if s.hasCore c then s.deliver c h l else s
  | .store a b => { s with mem := memWrite s.mem a.toNat b }

/-! ### Whose turn it is -/

/-- The turn that comes next and the machine with it taken: the first one arranged, or a free one (R75). -/
def nextTurn (s : State) : Turn × State :=
  match s.agenda with
  | t :: rest => (t, { s with agenda := rest })
  | [] => (Config.freeTurn s.draws, { s with draws := s.draws + 1 })

/-- One agent moves. A turn that its agent cannot take leaves everything as it was. -/
def runTurn (t : Turn) (s : State) : Res :=
  match t with
  | .instr c => if canRun s c then runInstr c s else .next s
  | .tick c => if canTick s c then tick c s else .next s
  | .env m => .next (applyEnv m s)

/-! ### Placing an instruction for the next step -/

/-- A core that can execute an instruction, whatever it was doing. -/
def Core.ready (x : Core) : Core := { x with halted := false, raised := none, wrmsrSinceTick := false }

/-- The machine whose next step runs the code `code` on core 0: access instructions are stored at its program counter
and its instruction stream is next; a PERFEVTSEL word is put into its PerfEvtSel0 and its tick is next. -/
def State.place (s : State) (code : Code) : State :=
  match code with
  | .bytes bs =>
    { s with
      core0 := s.core0.ready
      mem := (bs.zipIdx).foldl (fun m p => memWrite m (s.core0.pc + BitVec.ofNat 64 p.2).toNat p.1) s.mem
      agenda := .instr .core0 :: s.agenda }
  | .evtsel w =>
    { s with
      core0 := { s.core0 with halted := false, counter0 := { s.core0.counter0 with sel := w.setWidth 32 } }
      agenda := .tick .core0 :: s.agenda }

end Sys2Proof.Machine
end

