-- ==== Sys2Proof/Machine/Step.lean ====
section
/-! DEFINITION. One step of the machine: the agent whose turn it is moves (R8, R75). -/

namespace Sys2Proof.Machine

/-- One step. -/
def step (s : State) : Host.Outcome State Fault Refusal :=
  runTurn (nextTurn s).1 (nextTurn s).2

/-- `s` with the instruction that the `nbits` bits `w` of a table row stand for placed where the next step runs it
(log entries 9, 15 and 17). -/
def State.withFetchWord (s : State) (nbits w : Nat) : State := s.place (tableCode nbits w)

end Sys2Proof.Machine
end

