-- ==== Sys2Proof/Machine/Measures.lean ====
section
/-! DEFINITION. The arithmetic the source puts on counts (spec/42_events_fpu_ls_dc.md, spec/43_events_l2_ic_ex.md,
spec/44_events_nb.md; worked in spec/95_test_vectors.md 1.4 to 1.14). It is done on counts that software has read; no
step of the machine uses it. -/

namespace Sys2Proof.Machine

/-- The quotient of two counts. A quotient by 0 is a free value: the spec states none (DESIGN CHOICE, log entry 25). -/
def ratio (a b : ℚ) : ℚ := if b = 0 then Config.freeRatio a else a / b

/-- Bytes of one DRAM access (R7, R291). -/
def DramGranularity.bytes : DramGranularity → Nat
  | .bytes32 => 32
  | .bytes64 => 64

/-- `DRAM_width_in_bytes`, 8 or 16 (R7, R293). -/
def DramChannels.width : DramChannels → ℚ
  | .single => 8
  | .dual => 16

/-- Bytes moved by the counted DRAM accesses, event E0h (R291). -/
def dramBytes (p : Part) (count : Nat) : Nat := count * DramGranularity.bytes p.dramGranularity

/-- Bytes lost per DIMM turnaround, event E3h mask 01h (R293). -/
def dimmTurnaround (p : Part) : ℚ := DramChannels.width p.dramChannels * 2 * 2

/-- Bytes lost per read-to-write turnaround, event E3h mask 02h (R293, C4). -/
def readToWriteTurnaround (p : Part) : ℚ := DramChannels.width p.dramChannels * 2 * 1

/-- Bytes lost per write-to-read turnaround, event E3h mask 04h (R293, C4); `tcl` is the CAS latency in memory clocks. -/
def writeToReadTurnaround (p : Part) (tcl : ℚ) : ℚ := DramChannels.width p.dramChannels * 2 * (tcl - 1)

/-- Bytes moved by a count of 64-byte line transfers: events 42h to 44h, 6Ch, 7Fh, 82h and 83h, and the refills of the
misses of event 81h (R212 to R214, R232, R236, R238 to R240). -/
def lineBytes (count : Nat) : Nat := 64 * count

/-- Lines the prefetcher read from the system: attempts less cancelled ones, event 67h (R231). -/
def prefetchedLines (attempts cancelled : Int) : Int := attempts - cancelled

/-- Bytes the prefetcher read from the system, 64 for each line (R231; spec/95_test_vectors.md 1.4). -/
def prefetchedBytes (attempts cancelled : Int) : Int := 64 * prefetchedLines attempts cancelled

/-- Write events to WC memory: event 65h masks 02h and 80h (R209). -/
def wcWrites (wc streaming : Int) : Int := wc - streaming

/-- Bytes written to the system, event 6Dh: one quadword each (R233). -/
def quadwordBytes (count : Nat) : Nat := 8 * count

/-- Bytes of the dirty probe hits, event ECh: one 64-byte line each (R301). -/
def dirtyProbeBytes (count : Nat) : Nat := lineBytes count

/-- Bytes sent on a HyperTransport link, events F6h to F8h: one Dword each (R304). -/
def linkBytes (count : Nat) : Nat := 4 * count

/-- Bandwidth: bytes moved over the elapsed time (R301, R304). With no time elapsed the spec states no value: it is free
(log entry 25). -/
def bandwidth (bytes time : ℚ) : ℚ := ratio bytes time

/-- Link utilization: command, data and buffer release Dwords over all Dwords (R304). With no
Dword counted at all the spec states no value: it is free (log entry 25). -/
def linkUtilization (busy nop : ℚ) : ℚ := ratio busy (busy + nop)

/-- GART TLB miss ratio, event EEh (R302). With no aperture hit the spec states no value: it is free (log entry 25). -/
def gartMissRatio (misses hits : ℚ) : ℚ := ratio misses hits

/-- Average length of a condition: its cycle count over its edge count, events CDh and CEh (R263, R264); free for no
edge (log entry 25). -/
def averageLength (cycles edges : ℚ) : ℚ := ratio cycles edges

/-- Proportion of interrupts whose handling is delayed: the edge count of event CEh over the edge count of event CDh
(R264; spec/95_test_vectors.md 1.7). With no edge of CDh the spec states no value: it is free (log entry 25). -/
def delayedInterruptProportion (edgesCE edgesCD : ℚ) : ℚ := ratio edgesCE edgesCD

/-- Instructions per clock: event C0h over event 76h (R249, R332); free for no clock (log entry 25). -/
def instructionsPerClock (retired clocks : ℚ) : ℚ := ratio retired clocks

/-- Clocks per instruction, the CPI that R249 names beside IPC; free for no retired instruction (log entry 25). -/
def clocksPerInstruction (clocks retired : ℚ) : ℚ := ratio clocks retired

/-- Increments between two reads of one counter, if fewer than `2^48` occurred (R351). -/
def incrementsBetween (c1 c2 : Count48) : Nat := (c2 - c1).toNat

end Sys2Proof.Machine
end

