-- ==== Sys2Proof/Safety.lean ====
section
/-! DEFINITION. What a run must keep to for the spec to say what its counters do, and what a step leaves of the
machine, in the terms the statements use. -/

namespace Sys2Proof.Machine

/-- How counter `i` of core `c` takes its next tick, from the word its event-select register holds (R148, R325). -/
def modeAt (s : State) (c : CoreId) (i : CtrId) : CountMode :=
  countMode (s.aimAt c i) (selectedEvent ((s.core c).counter i).sel) (ctlOf ((s.core c).counter i).sel)

/-- Counter `i` of core `c` is specified: rules R133 to R147 say what its next tick does. -/
def Specified (s : State) (c : CoreId) (i : CtrId) : Prop := modeAt s c i = .specified

/-- The same PMU registers, hidden bits, pins and requests (R20): nothing of the PMU of a core has moved. -/
def SamePmu (x y : Core) : Prop := ∀ i, x.counter i = y.counter i

/-- The same interface registers, program counter and mode inputs (R21 to R23, R49, R112). -/
def SameBorrowed (x y : Core) : Prop :=
  x.eax = y.eax ∧ x.ecx = y.ecx ∧ x.edx = y.edx ∧ x.pc = y.pc ∧ x.cpl = y.cpl ∧ x.pce = y.pce ∧
    x.halted = y.halted ∧ x.raised = y.raised

/-- Interrupt requests of a counter are kept newest first, one per tick at most, each from a tick that is over
(R310: "one request per overflowing tick"). -/
def requestsOrdered (clock : Nat) (k : Counter) : Prop :=
  k.irqs.Pairwise (· > ·) ∧ ∀ t ∈ k.irqs, t < clock

/-- Every counter of every core keeps its requests so. -/
def RequestsOrdered (s : State) : Prop :=
  ∀ c i, requestsOrdered (s.core c).clock ((s.core c).counter i)

/-- The instruction that core `c` would fetch is this access instruction. -/
def fetches (s : State) (c : CoreId) (i : Instr) : Prop := decodeStream (s.window c) = .ok (.access i)

end Sys2Proof.Machine
end

