-- ==== Sys2Proof/WellFormed.lean ====
section
/-! DEFINITION. Well-formed instructions: an event word is well formed on a part when no field of it is reserved
there, that is when it is a conforming PERFEVTSEL word (spec/30_encoding.md R87, R88;
spec/41_counting.md R148). An ill-formed event word can still be written and run: its counter is then unspecified
(R150). -/

namespace Sys2Proof

/-- The checks of R88 (a), (b), (d) and of R87 and R297, one by one. -/
def Instr.wellFormed (p : Part) (i : Instr) : Bool :=
  match Machine.eventOf i with
  | none => true
  | some (info, f) =>
    !Machine.cntMaskReserved f.cntMask && !f.sbz && !Machine.selectReserved p info.select &&
      !Machine.maskReserved p info.select f.unitMask

end Sys2Proof
end

