-- ==== Sys2Proof/Certificates/Slice0/Obligations.lean ====
section
/-! DEFINITION. The statements for the provers. The claims' own vocabulary comes first: the register numbers, the
event counts and the pseudocode of R148 written out from the spec a second time, so that a statement does not
repeat the model's definitions. -/

namespace Sys2Proof.Claims

open Sys2Proof.Machine

/-- C001_0000h to C001_0003h (R30). -/
def evtSelMsr : CtrId → Reg
  | .ctr0 => 0xC0010000
  | .ctr1 => 0xC0010001
  | .ctr2 => 0xC0010002
  | .ctr3 => 0xC0010003

/-- C001_0004h to C001_0007h (R27). -/
def ctrMsr : CtrId → Reg
  | .ctr0 => 0xC0010004
  | .ctr1 => 0xC0010005
  | .ctr2 => 0xC0010006
  | .ctr3 => 0xC0010007

/-- The RDPMC indices 0 to 3 (R61). -/
def ctrIndex : CtrId → Reg
  | .ctr0 => 0
  | .ctr1 => 1
  | .ctr2 => 2
  | .ctr3 => 3

/-- Bits 47–32 of a counter, zero-extended to EDX, and bits 31–0, to EAX (R102, R110). -/
def loaded (x : Core) (ctr : Count48) : Core :=
  { x with edx := BitVec.ofNat 32 (ctr.toNat / 2 ^ 32), eax := BitVec.ofNat 32 (ctr.toNat % 2 ^ 32), pc := x.pc + 2 }

/-- An event-select word read: EDX 0, EAX the 32 stored bits (R102). -/
def loadedSel (x : Core) (sel : SelWord) : Core := { x with edx := 0, eax := sel, pc := x.pc + 2 }

/-- The order `preD < D < E` (R7). -/
def rank : Rev → Nat
  | .preD => 0
  | .D => 1
  | .E => 2

/-- `is_nb` of R290 on a stored word. -/
def NbWord (w : SelWord) : Prop := 0xE0 ≤ w.toNat % 256

/-- R325 for the counter at hand, which selects `es`: the other core has a Northbridge event on the same counter, or
both cores have Northbridge events and `es` is one. -/
def Conflict (s : State) (es : BitVec 8) : Prop :=
  s.part.numCores = .two ∧
    (NbWord ((s.core s.acting.other).counter s.target).sel ∨
      (0xE0 ≤ es.toNat ∧ ∃ j, NbWord ((s.core s.acting.other).counter j).sel))

/-- The pseudocode of R148 for a word that is not reserved, on one counter: `n` the oracle's value, `t` the tick. -/
def r148 (f : EvtCtl) (cpl : BitVec 2) (n t : Nat) (k : Counter) : Counter :=
  let m := f.cntMask.toNat
  let cond : Bool := if m = 0 then decide (n ≥ 1) else if f.inv = false then decide (n ≥ m) else decide (n < m)
  let lvl := if m = 0 then n else if cond = true then 1 else 0
  let edge := if cond = true ∧ k.prev = false then 1 else 0
  let privOk : Prop := (cpl.toNat > 0 ∧ f.usr = true) ∨ (cpl.toNat = 0 ∧ f.os = true)
  let inc := if f.en = false ∨ ¬privOk then 0 else if f.e = true then edge else lvl
  let sum := k.ctr.toNat + inc
  { sel := k.sel
    ctr := BitVec.ofNat 48 (sum % 2 ^ 48)
    prev := cond
    pin := if (f.pc = true ∧ sum ≥ 2 ^ 48) ∨ (f.pc = false ∧ inc > 0) then !k.pin else k.pin
    irqs := if sum ≥ 2 ^ 48 ∧ f.int = true then t :: k.irqs else k.irqs }

/-- The first branch of R148: counter, request, pin and `Prev` are free values (number `d`). -/
def r148Free (f : EvtCtl) (t d : Nat) (k : Counter) : Counter :=
  { sel := k.sel
    ctr := Config.freeCtr d
    prev := Config.freePrev d
    pin := if Config.freePin d = true then !k.pin else k.pin
    irqs := if f.int = true ∧ Config.freeIrq d = true then t :: k.irqs else k.irqs }

/-- Reserved and EN = 0: only `Prev` is a free value (R148). -/
def r148Held (d : Nat) (k : Counter) : Counter := { k with prev := Config.freePrev d }

/-- The machine with the counter at hand replaced and `drawn` more free values used; nothing else moves. -/
def withCounter (s : State) (k : Counter) (drawn : Nat) : State :=
  { s.setCore s.acting ((s.core s.acting).setCounter s.target k) with draws := s.draws + drawn }

/-- What the event rules fix of one event: its EVENT_SELECT, the UNIT_MASK bits its table defines on each revision
(none: no table), the earliest revision, and the masks whose oracle value is 0 or 1 because they measure a condition. -/
structure EventRule where
  es : BitVec 8
  bits : Rev → Option (BitVec 8)
  first : Rev
  isCycles : BitVec 8 → Bool

/-- An event with a table of bits that every revision defines. -/
def table (es bits : BitVec 8) : EventRule := ⟨es, fun _ => some bits, .preD, fun _ => false⟩

/-- An event of occurrences with no table. -/
def plain (es : BitVec 8) : EventRule := ⟨es, fun _ => none, .preD, fun _ => false⟩

/-- An event of cycles with no table. -/
def cycles (es : BitVec 8) : EventRule := ⟨es, fun _ => none, .preD, fun _ => true⟩

/-- The UNIT_MASK bits that an entry of an event set defines on revision `rev`; none: it has no table. -/
def definedOn (e : DefinedEvent) (rev : Rev) : Option (BitVec 8) :=
  if e.bits = [] then none
  else some (e.bits.foldl (fun acc u => if rank u.2 ≤ rank rev then acc ||| u.1 else acc) 0)

/-- The spec's default event set defines this event from the rule's revision on, with the rule's UNIT_MASK bits. -/
def EventRule.InDefault (r : EventRule) : Prop :=
  ∃ e, specEventSet.find? (fun e => e.select == r.es) = some e ∧ e.minRev = r.first ∧ ∀ rev, definedOn e rev = r.bits rev

/-- `reserved(s)` of R148 on the part `p`, for a word with EVENT_SELECT `es`: CNT_MASK, bit 21, an EVENT_SELECT that the
part's event set does not define on its revision, or a UNIT_MASK bit that the event's table does not. -/
def ReservedOn (p : Part) (es : BitVec 8) (f : EvtCtl) : Prop :=
  f.cntMask.toNat > 3 ∨ f.sbz = true ∨
    match p.eventSet.find? (fun e => e.select == es) with
    | none => True
    | some e => rank p.rev < rank e.minRev ∨
        (e.bits ≠ [] ∧ ∃ j, f.unitMask.getLsbD j = true ∧ ∀ u ∈ e.bits, u.1.getLsbD j = true → rank p.rev < rank u.2)

/-- `n` of R133 for a word with EVENT_SELECT `es`, from the oracle: 0 if the event has a table and no bit of it is set,
the UNIT_MASK not applicable if it has none, at most 1 for a condition. -/
def countOn (es : BitVec 8) (isCycles : Bool) (s : State) (f : EvtCtl) : Nat :=
  let ask := fun um => (Config.eventOracle s.acting (s.core s.acting).clock es um).val
  let raw := match (s.part.eventSet.find? (fun e => e.select == es)).bind (fun e => definedOn e s.part.rev) with
    | some b => if f.unitMask &&& b = 0 then 0 else ask f.unitMask
    | none => ask 0
  if isCycles = true then min raw 1 else raw

/-- The outcome `o` is R148's step of the counter at hand for the word with EVENT_SELECT `es` and the fields `f`: a
conforming word without a Northbridge conflict by the second branch with the event's count; a reserved or conflicting one
while enabled by the first; a reserved one while disabled with a free `Prev`. Nothing else of the machine moves. -/
def StepsBy (o : Res) (es : BitVec 8) (isCycles : Bool) (f : EvtCtl) (s : State) : Prop :=
  (¬ ReservedOn s.part es f → ¬ (f.en = true ∧ Conflict s es) →
    o = .next (withCounter s (r148 f (s.core s.acting).cpl (countOn es isCycles s f) (s.core s.acting).clock
      ((s.core s.acting).counter s.target)) 0)) ∧
  (f.en = true → ReservedOn s.part es f ∨ Conflict s es →
    o = .next (withCounter s (r148Free f (s.core s.acting).clock s.draws ((s.core s.acting).counter s.target)) 1)) ∧
  (f.en = false → ReservedOn s.part es f →
    o = .next (withCounter s (r148Held s.draws ((s.core s.acting).counter s.target)) 1))

/-- The words of an event run R148, on every part, in every state and for every value of their fields, and the spec's
default event set defines the event as its rule does. R148 rests on the spec's own decisions D9, D12, D14 to D17, D29 and
D32, and R325 on D18 and D19; log entry 13. The event set is a parameter (R7, log entry 5). -/
def Runs (mk : EvtCtl → Instr) (r : EventRule) : Prop :=
  r.InDefault ∧ ∀ (f : EvtCtl) (s : State), StepsBy (exec (mk f) s) r.es (r.isCycles f.unitMask) f s

/-- The privilege filter of R134 lets this level through. -/
def Passes (f : EvtCtl) (cpl : BitVec 2) : Prop := (cpl = 0 ∧ f.os = true) ∨ (cpl ≠ 0 ∧ f.usr = true)

/-- One counter taken through ticks, each with its privilege level and count, in its specified mode, from tick `t` on. -/
def counted (f : EvtCtl) : Nat → List (BitVec 2 × Occ) → Counter → Counter
  | _, [], k => k
  | t, n :: ns, k => counted f (t + 1) ns (k.ticked .specified f n.1 n.2 t 0)

/-- The sum of the increments that these ticks give a counter whose last sample was `p`. -/
def incrementSum (f : EvtCtl) : Bool → List (BitVec 2 × Occ) → Nat
  | _, [] => 0
  | p, n :: ns => increment f n.1 n.2 p + incrementSum f (condition f n.2) ns

/-- The number of ticks with a level the privilege filter lets through at which the condition holds and did not at the
tick before, after a last sample `p`. -/
def risingEdges (f : EvtCtl) : Bool → List (BitVec 2 × Occ) → Nat
  | _, [] => 0
  | p, n :: ns =>
    (if condition f n.2 = true ∧ p = false ∧ ((n.1 = 0 ∧ f.os = true) ∨ (n.1 ≠ 0 ∧ f.usr = true)) then 1 else 0) +
      risingEdges f (condition f n.2) ns

/-- The EVENT_SELECT values that R87 lists as reserved. -/
def reservedSelects : List (Nat × Nat) :=
  [(0x03, 0x1F), (0x25, 0x25), (0x28, 0x3F), (0x4D, 0x64), (0x66, 0x66), (0x68, 0x6B), (0x6E, 0x75), (0x77, 0x7C),
   (0x8A, 0xBF), (0xE2, 0xE2), (0xE6, 0xE7), (0xED, 0xED), (0xEF, 0xF5), (0xF9, 0xFF)]

/-- The word's EVENT_SELECT lies in the list of R87. -/
def SelectsReserved (w : SelWord) : Prop := ∃ r ∈ reservedSelects, r.1 ≤ w.toNat % 256 ∧ w.toNat % 256 ≤ r.2

/-- The opcode of `mov r32, imm32` (spec/95_test_vectors.md Part 3, R92). -/
def movOpcode : IfReg → Byte
  | .eax => 0xB8
  | .ecx => 0xB9
  | .edx => 0xBA

/-- The core after `mov r, imm32`: the register holds the immediate, the pc is 5 higher. -/
def afterMov (x : Core) (r : IfReg) (imm : Nat) : Core :=
  match r with
  | .eax => { x with eax := BitVec.ofNat 32 imm, pc := x.pc + 5 }
  | .ecx => { x with ecx := BitVec.ofNat 32 imm, pc := x.pc + 5 }
  | .edx => { x with edx := BitVec.ofNat 32 imm, pc := x.pc + 5 }

/-- What an access instruction that raises `#GP(0)` leaves: its core waits with the error code and the pc recorded, and
nothing else of any core or of memory has moved (R316, R318). -/
def OnlyRaised (s t : State) (c : CoreId) : Prop :=
  t.core c = { s.core c with raised := some ⟨0, (s.core c).pc⟩ } ∧ t.core c.other = s.core c.other ∧
    t.mem = s.mem ∧ t.part = s.part

/-- The conditions of R103, R111 and R112 under which an access instruction raises `#GP(0)`. -/
def RaisesGP (x : Core) : Instr → Prop
  | .wrmsr => x.cpl ≠ 0
  | .rdmsr => x.cpl ≠ 0
  | .rdpmc => (x.cpl ≠ 0 ∧ x.pce = false) ∨ x.ecx.toNat > 3
  | _ => False

end Sys2Proof.Claims

open Sys2Proof Sys2Proof.Machine Sys2Proof.Claims

/-! ### The register access instructions -/

/-- WRMSR, whole (R105, R103, R104, R106 and the store of R107): which register EDX:EAX goes to, which bits of it, that
the pc goes on by 2 and that nothing else moves; `#GP(0)` at CPL > 0; the refusal of another number. The core is
marked as having had a WRMSR step, which is the model's way to keep R12 (log entry 7). Resting on the spec's own
decisions: D4 (privilege), D5 (other numbers), D6, D7, D8 (reserved bits); log entry 13. -/
def Obligations.WrmsrMeaning : Prop :=
  ∀ s : State,
    (s.cur.cpl = 0 → ∀ i, s.cur.ecx = evtSelMsr i →
      exec .wrmsr s = .next (s.setCur
        { (s.cur.setCounter i { s.cur.counter i with sel := s.cur.eax }) with
          pc := s.cur.pc + 2, wrmsrSinceTick := true })) ∧
    (s.cur.cpl = 0 → ∀ i, s.cur.ecx = ctrMsr i →
      exec .wrmsr s = .next (s.setCur
        { (s.cur.setCounter i
            { s.cur.counter i with ctr := BitVec.ofNat 48 (s.cur.edx.toNat * 2 ^ 32 + s.cur.eax.toNat) }) with
          pc := s.cur.pc + 2, wrmsrSinceTick := true })) ∧
    (s.cur.cpl ≠ 0 → exec .wrmsr s = .fault (.generalProtection s.acting 0 s.cur.pc)) ∧
    (s.cur.cpl = 0 → (∀ i, s.cur.ecx ≠ evtSelMsr i ∧ s.cur.ecx ≠ ctrMsr i) →
      exec .wrmsr s = .refused (.msrOutsidePmu s.acting s.cur.ecx))

/-- RDMSR, whole (R102, R103, R104): EDX:EAX, the pc and nothing else; `#GP(0)` at CPL > 0; the refusal. The last two
clauses rest on the spec's own decisions D4 and D5, the pc on D3; log entry 13. -/
def Obligations.RdmsrMeaning : Prop :=
  ∀ s : State,
    (s.cur.cpl = 0 → ∀ i, s.cur.ecx = evtSelMsr i →
      exec .rdmsr s = .next (s.setCur (loadedSel s.cur (s.cur.counter i).sel))) ∧
    (s.cur.cpl = 0 → ∀ i, s.cur.ecx = ctrMsr i →
      exec .rdmsr s = .next (s.setCur (loaded s.cur (s.cur.counter i).ctr))) ∧
    (s.cur.cpl ≠ 0 → exec .rdmsr s = .fault (.generalProtection s.acting 0 s.cur.pc)) ∧
    (s.cur.cpl = 0 → (∀ i, s.cur.ecx ≠ evtSelMsr i ∧ s.cur.ecx ≠ ctrMsr i) →
      exec .rdmsr s = .refused (.msrOutsidePmu s.acting s.cur.ecx))

/-- RDPMC, whole (R110, R111, R112): EDX:EAX, the pc and nothing else; `#GP(0)` for an index above 3, all 32 bits
compared, and at CPL > 0 without PCE. The last two clauses rest on the spec's own decisions D5 and D4; log entry 13. -/
def Obligations.RdpmcMeaning : Prop :=
  ∀ s : State,
    ((s.cur.cpl = 0 ∨ s.cur.pce = true) → ∀ i, s.cur.ecx = ctrIndex i →
      exec .rdpmc s = .next (s.setCur (loaded s.cur (s.cur.counter i).ctr))) ∧
    (s.cur.ecx.toNat > 3 → exec .rdpmc s = .fault (.generalProtection s.acting 0 s.cur.pc)) ∧
    (s.cur.cpl ≠ 0 → s.cur.pce = false → exec .rdpmc s = .fault (.generalProtection s.acting 0 s.cur.pc))

/-- R113: RDPMC of index `i` and RDMSR of `C001_0004h + i` load the same EDX:EAX from one state of the counters; they
differ in the index space and in the privilege they need. Derived by the spec from R102 and R110. -/
def Obligations.RdpmcAgreesWithRdmsr : Prop :=
  ∀ (s : State) (i : CtrId), s.cur.cpl = 0 →
    (∃ t u,
      exec .rdpmc (s.setCur { s.cur with ecx := ctrIndex i }) = .next t ∧
      exec .rdmsr (s.setCur { s.cur with ecx := ctrMsr i }) = .next u ∧ t.cur.edx = u.cur.edx ∧ t.cur.eax = u.cur.eax) ∧
    (∀ l, l ≠ 0 →
      (∃ v, exec .rdpmc (s.setCur { s.cur with ecx := ctrIndex i, cpl := l, pce := true }) = .next v) ∧
      exec .rdmsr (s.setCur { s.cur with ecx := ctrMsr i, cpl := l, pce := true }) =
        .fault (.generalProtection s.acting 0 s.cur.pc))

/-- R70 in one step each: an RDMSR right after a WRMSR of the same register reads what was written, less the reserved
bits (R26, R44). Program order is the spec's own decision D23; log entry 19. -/
def Obligations.RdmsrAfterWrmsrReadsWrite : Prop :=
  ∀ (s t : State) (i : CtrId), exec .wrmsr s = .next t →
    (s.cur.ecx = evtSelMsr i → ∃ u, exec .rdmsr t = .next u ∧ u.cur.edx = 0 ∧ u.cur.eax = s.cur.eax) ∧
    (s.cur.ecx = ctrMsr i →
      ∃ u, exec .rdmsr t = .next u ∧ u.cur.edx = s.cur.edx &&& 0xFFFF ∧ u.cur.eax = s.cur.eax)

/-! ### The event words -/

/-- The event words of the floating-point unit (R201 to R203) run R148, each with
its own EVENT_SELECT, UNIT_MASK table and kind. Resting on the decisions that `Runs` names. -/
def Obligations.FpuEventsRun : Prop :=
  Runs .evt00 (table 0x00 0x3F) ∧
  Runs .evt01 (cycles 0x01) ∧
  Runs .evt02 (plain 0x02)

/-- The event words of the load/store unit (R204 to R209) run R148, each with
its own EVENT_SELECT, UNIT_MASK table and kind. Resting on the decisions that `Runs` names. -/
def Obligations.LoadStoreEventsRun : Prop :=
  Runs .evt20 (table 0x20 0x7F) ∧
  Runs .evt21 (plain 0x21) ∧
  Runs .evt22 (plain 0x22) ∧
  Runs .evt23 (cycles 0x23) ∧
  Runs .evt24 ⟨0x24, fun _ => some 0x07, .preD, fun um => um == 0x02 || um == 0x04⟩ ∧
  Runs .evt65 (table 0x65 0x83)

/-- The event words of the data cache (R210 to R222) run R148, each with
its own EVENT_SELECT, UNIT_MASK table and kind. Resting on the decisions that `Runs` names. -/
def Obligations.DataCacheEventsRun : Prop :=
  Runs .evt40 (plain 0x40) ∧
  Runs .evt41 (plain 0x41) ∧
  Runs .evt42 (table 0x42 0x1F) ∧
  Runs .evt43 (table 0x43 0x1F) ∧
  Runs .evt44 (table 0x44 0x1F) ∧
  Runs .evt45 (plain 0x45) ∧
  Runs .evt46 (plain 0x46) ∧
  Runs .evt47 (plain 0x47) ∧
  Runs .evt48 (plain 0x48) ∧
  Runs .evt49 (plain 0x49) ∧
  Runs .evt4A (table 0x4A 0x03) ∧
  Runs .evt4B (table 0x4B 0x07) ∧
  Runs .evt4C (table 0x4C 0x02)

/-- The event words of the L2 cache and system interface (R231 to R236) run R148, each with
its own EVENT_SELECT, UNIT_MASK table and kind. Resting on the decisions that `Runs` names. -/
def Obligations.L2AndSystemEventsRun : Prop :=
  Runs .evt67 (table 0x67 0x03) ∧
  Runs .evt6C (table 0x6C 0x07) ∧
  Runs .evt6D (table 0x6D 0x01) ∧
  Runs .evt7D (table 0x7D 0x1F) ∧
  Runs .evt7E (table 0x7E 0x07) ∧
  Runs .evt7F (table 0x7F 0x03)

/-- The event words of the instruction cache (R237 to R246) run R148, each with
its own EVENT_SELECT, UNIT_MASK table and kind. Resting on the decisions that `Runs` names. -/
def Obligations.InstructionCacheEventsRun : Prop :=
  Runs .evt80 (plain 0x80) ∧
  Runs .evt81 (plain 0x81) ∧
  Runs .evt82 (plain 0x82) ∧
  Runs .evt83 (plain 0x83) ∧
  Runs .evt84 (plain 0x84) ∧
  Runs .evt85 (plain 0x85) ∧
  Runs .evt86 (plain 0x86) ∧
  Runs .evt87 (cycles 0x87) ∧
  Runs .evt88 (plain 0x88) ∧
  Runs .evt89 (plain 0x89)

/-- The event words of the execution unit (R247 to R281) run R148, each with
its own EVENT_SELECT, UNIT_MASK table and kind. Resting on the decisions that `Runs` names. -/
def Obligations.ExecutionUnitEventsRun : Prop :=
  Runs .evt26 (plain 0x26) ∧
  Runs .evt27 (plain 0x27) ∧
  Runs .evt76 (cycles 0x76) ∧
  Runs .evtC0 (plain 0xC0) ∧
  Runs .evtC1 (plain 0xC1) ∧
  Runs .evtC2 (plain 0xC2) ∧
  Runs .evtC3 (plain 0xC3) ∧
  Runs .evtC4 (plain 0xC4) ∧
  Runs .evtC5 (plain 0xC5) ∧
  Runs .evtC6 (plain 0xC6) ∧
  Runs .evtC7 (plain 0xC7) ∧
  Runs .evtC8 (plain 0xC8) ∧
  Runs .evtC9 (plain 0xC9) ∧
  Runs .evtCA (plain 0xCA) ∧
  Runs .evtCB (table 0xCB 0x0F) ∧
  Runs .evtCC (table 0xCC 0x07) ∧
  Runs .evtCD (cycles 0xCD) ∧
  Runs .evtCE (cycles 0xCE) ∧
  Runs .evtCF (plain 0xCF) ∧
  Runs .evtD0 (cycles 0xD0) ∧
  Runs .evtD1 (cycles 0xD1) ∧
  Runs .evtD2 (cycles 0xD2) ∧
  Runs .evtD3 (cycles 0xD3) ∧
  Runs .evtD4 (cycles 0xD4) ∧
  Runs .evtD5 (cycles 0xD5) ∧
  Runs .evtD6 (cycles 0xD6) ∧
  Runs .evtD7 (cycles 0xD7) ∧
  Runs .evtD8 (cycles 0xD8) ∧
  Runs .evtD9 (cycles 0xD9) ∧
  Runs .evtDA (cycles 0xDA) ∧
  Runs .evtDB (table 0xDB 0x0F) ∧
  Runs .evtDC (plain 0xDC) ∧
  Runs .evtDD (plain 0xDD) ∧
  Runs .evtDE (plain 0xDE) ∧
  Runs .evtDF (plain 0xDF)

/-- The event words of the memory controller (R291 to R302), with the revision limits of R297 run R148, each with
its own EVENT_SELECT, UNIT_MASK table and kind. Resting on the decisions that `Runs` names. -/
def Obligations.MemoryControllerEventsRun : Prop :=
  Runs .evtE0 (table 0xE0 0x07) ∧
  Runs .evtE1 (plain 0xE1) ∧
  Runs .evtE3 (table 0xE3 0x07) ∧
  Runs .evtE4 (table 0xE4 0x0F) ∧
  Runs .evtE5 ⟨0xE5, fun r => some (if 1 ≤ rank r then 0x3C else 0), .preD, fun _ => false⟩ ∧
  Runs .evtE8 ⟨0xE8, fun r => some (if 2 ≤ rank r then 0x80 else 0), .preD, fun _ => false⟩ ∧
  Runs .evtE9 ⟨0xE9, fun _ => some 0xFF, .E, fun _ => false⟩ ∧
  Runs .evtEA ⟨0xEA, fun _ => some 0x3D, .E, fun _ => false⟩ ∧
  Runs .evtEB (table 0xEB 0x7F) ∧
  Runs .evtEC ⟨0xEC, fun r => some (if 1 ≤ rank r then 0x7F else 0x3F), .preD, fun _ => false⟩ ∧
  Runs .evtEE (table 0xEE 0x07)

/-- The event words of the HyperTransport interface (R304 to R306) run R148, each with
its own EVENT_SELECT, UNIT_MASK table and kind. Resting on the decisions that `Runs` names. -/
def Obligations.HyperTransportEventsRun : Prop :=
  Runs .evtF6 (table 0xF6 0x0F) ∧
  Runs .evtF7 (table 0xF7 0x0F) ∧
  Runs .evtF8 (table 0xF8 0x0F)

/-! ### The counter logic on one counter -/

/-- R137, every row: the level-mode increment of an enabled counter of both privilege classes for each legal CNT_MASK,
INV and count; and CNT_MASK 4 to 255 are reserved for every event. Derived by the spec from R136. -/
def Obligations.LevelIncrementTable : Prop :=
  (∀ (f : EvtCtl) (n : Occ), f.cntMask.toNat = 0 → levelInc f n = n.val) ∧
  (∀ f : EvtCtl, f.inv = false →
    (f.cntMask = 1 → [0, 1, 2, 3].map (levelInc f) = [0, 1, 1, 1]) ∧
    (f.cntMask = 2 → [0, 1, 2, 3].map (levelInc f) = [0, 0, 1, 1]) ∧
    (f.cntMask = 3 → [0, 1, 2, 3].map (levelInc f) = [0, 0, 0, 1])) ∧
  (∀ f : EvtCtl, f.inv = true →
    (f.cntMask = 1 → [0, 1, 2, 3].map (levelInc f) = [1, 0, 0, 0]) ∧
    (f.cntMask = 2 → [0, 1, 2, 3].map (levelInc f) = [1, 1, 0, 0]) ∧
    (f.cntMask = 3 → [0, 1, 2, 3].map (levelInc f) = [1, 1, 1, 0])) ∧
  (∀ p es (f : EvtCtl), f.cntMask.toNat > 3 → reservedSel p es f = true)

/-- R141 over any run of ticks, at any privilege levels: the counter holds its start value plus the sum of the increments,
modulo `2^48`, and its event-select word is as it was. The wrap is the spec's own decision D9; log entry 13. -/
def Obligations.CountIsSumOfIncrements : Prop :=
  ∀ (f : EvtCtl) (t : Nat) (ns : List (BitVec 2 × Occ)) (k : Counter),
    (counted f t ns k).ctr.toNat = (k.ctr.toNat + incrementSum f k.prev ns) % 2 ^ 48 ∧
    (counted f t ns k).sel = k.sel

/-- R138 over any run of ticks, at any privilege levels: an enabled counter in edge mode counts one for each transition
of the condition from not holding to holding, at a tick whose level the privilege filter lets through. The edge
detector's details and the filter's place are the spec's own decisions D15 and D16; log entry 13. -/
def Obligations.EdgeModeCountsRisingEdges : Prop :=
  ∀ (f : EvtCtl) (t : Nat) (ns : List (BitVec 2 × Occ)) (k : Counter), f.en = true → f.e = true →
    (counted f t ns k).ctr.toNat = (k.ctr.toNat + risingEdges f k.prev ns) % 2 ^ 48

/-- R351: the difference of two reads of a counter, modulo `2^48`, is the number of increments between them if fewer than
`2^48` occurred. Derived by the spec from R141. -/
def Obligations.DifferenceCountsIncrements : Prop :=
  ∀ (f : EvtCtl) (t : Nat) (ns : List (BitVec 2 × Occ)) (k : Counter),
    incrementSum f k.prev ns < 2 ^ 48 →
    incrementsBetween k.ctr (counted f t ns k).ctr = incrementSum f k.prev ns

/-- R82 and R142: a counter loaded for `N` and incremented by 1 at each tick overflows at the `N`-th increment, and not
before, and then holds 0; with INT the one request is made at that tick. Overflow is the spec's own decision D9; log entry
13. -/
def Obligations.PreloadOverflowsAtNthIncrement : Prop :=
  ∀ (f : EvtCtl) (t : Nat) (ns : List (BitVec 2 × Occ)) (k : Counter) (N : Nat),
    1 ≤ N → N ≤ 2 ^ 48 → f.en = true → f.e = false → f.int = true → f.cntMask = 0 →
    k.ctr = preload N → k.irqs = [] → (∀ n ∈ ns, Passes f n.1 ∧ n.2 = 1) →
    (ns.length < N → (counted f t ns k).irqs = []) ∧
    (ns.length = N → (counted f t ns k).irqs = [t + N - 1] ∧ (counted f t ns k).ctr = 0)

/-- R139: the false edge. A counter left enabled in edge mode while its event changes counts one edge when the old
event's condition was 0 and the new one's is 1; with one disabled tick of the new event in between, at any privilege
level, it counts none. The edge detector's details are the spec's own decision D15; log entry 13. -/
def Obligations.ProtocolAvoidsFalseEdge : Prop :=
  ∀ (f : EvtCtl) (cpl cpl' : BitVec 2) (n n' : Occ) (t : Nat) (k : Counter),
    f.en = true → f.e = true → condition f n = true → condition f n' = true → k.prev = false →
    (Passes f cpl → (k.ticked .specified f cpl n t 0).ctr = k.ctr + 1) ∧
    ((k.ticked .specified { f with en := false } cpl n t 0).ticked .specified f cpl' n' (t + 1) 0).ctr = k.ctr

/-! ### The tick -/

/-- R130, R148, R151: a tick goes on in every state, steps each counter of the core once from the state before it,
independently of the other three, and moves nothing else but the clock, which goes on by one, and the wait of R12. A
specified counter takes R148's second branch with some count `n` of at most 3; another one is free or held. Resting on
the decisions that `Runs` names, and on D15 for the wait. -/
def Obligations.TickStepsEveryCounterOnce : Prop :=
  ∀ (s : State) (c : CoreId), ∃ t, tick c s = .next t ∧
    (∀ i, ∃ d n,
      (modeAt s c i = .specified → n ≤ 3 ∧ (t.core c).counter i =
        r148 (ctlOf ((s.core c).counter i).sel) (s.core c).cpl n (s.core c).clock ((s.core c).counter i)) ∧
      (modeAt s c i = .free → (t.core c).counter i =
        r148Free (ctlOf ((s.core c).counter i).sel) (s.core c).clock d ((s.core c).counter i)) ∧
      (modeAt s c i = .freePrev → (t.core c).counter i = r148Held d ((s.core c).counter i))) ∧
    (t.core c).clock = (s.core c).clock + 1 ∧ (t.core c).wrmsrSinceTick = false ∧
    SameBorrowed (t.core c) (s.core c) ∧ t.core c.other = s.core c.other ∧ t.mem = s.mem ∧ t.part = s.part

/-- R147: a disabled counter keeps its value through a tick, whatever its word selects: no interrupt, no pin toggle;
only `Prev` is updated. -/
def Obligations.DisabledCounterHolds : Prop :=
  ∀ (s : State) (c : CoreId) (i : CtrId), ((s.core c).counter i).sel.getLsbD 22 = false →
    ∃ t, tick c s = .next t ∧
      (t.core c).counter i = { (s.core c).counter i with prev := ((t.core c).counter i).prev }

/-- R144: at a tick of a specified counter the interrupt request is made exactly when the counter overflows and INT is
set; one request, and none with INT clear. That overflow is a carry out of bit 47 with wrap, so that the new value is
below the old one, is the spec's own decision D9 (R141, R142; log entry 13); the list of requests is log entry 12. -/
def Obligations.OverflowRequestsInterrupt : Prop :=
  ∀ (s : State) (c : CoreId) (i : CtrId), modeAt s c i = .specified → ∃ t, tick c s = .next t ∧
    (((t.core c).counter i).ctr.toNat < ((s.core c).counter i).ctr.toNat →
      ((s.core c).counter i).sel.getLsbD 20 = true →
      ((t.core c).counter i).irqs = (s.core c).clock :: ((s.core c).counter i).irqs) ∧
    (((s.core c).counter i).ctr.toNat ≤ ((t.core c).counter i).ctr.toNat ∨
        ((s.core c).counter i).sel.getLsbD 20 = false →
      ((t.core c).counter i).irqs = ((s.core c).counter i).irqs)

/-- R71, R132: the tick after a WRMSR of an event-select register uses the new word: with EN clear in it the counter holds
from then on, and with a specified one the counter takes R148's second branch under the new word. -/
def Obligations.WriteGovernsNextTick : Prop :=
  ∀ (s t : State) (i : CtrId), exec .wrmsr s = .next t → s.cur.ecx = evtSelMsr i →
    ∃ u, tick s.acting t = .next u ∧
      (s.cur.eax.getLsbD 22 = false → ((u.core s.acting).counter i).ctr = (s.cur.counter i).ctr) ∧
      (modeAt t s.acting i = .specified → ∃ n, n ≤ 3 ∧ (u.core s.acting).counter i =
        r148 (ctlOf s.cur.eax) s.cur.cpl n s.cur.clock { s.cur.counter i with sel := s.cur.eax })

/-- R150's confinement: whatever an unspecified counter draws, its event-select word reads back as before, and it
requests at most one interrupt, with INT only; the other counters are those of R148 from the same state. The confinement
is the spec's own decision D14; log entry 13. -/
def Obligations.UnspecifiedCounterIsConfined : Prop :=
  ∀ (s t : State) (c : CoreId) (i : CtrId), tick c s = .next t → modeAt s c i ≠ .specified →
    ((t.core c).counter i).sel = ((s.core c).counter i).sel ∧
    (((t.core c).counter i).irqs = ((s.core c).counter i).irqs ∨
      (((s.core c).counter i).sel.getLsbD 20 = true ∧
        ((t.core c).counter i).irqs = (s.core c).clock :: ((s.core c).counter i).irqs)) ∧
    (∀ j, j ≠ i → modeAt s c j = .specified → ∃ n, n ≤ 3 ∧ (t.core c).counter j =
      r148 (ctlOf ((s.core c).counter j).sel) (s.core c).cpl n (s.core c).clock ((s.core c).counter j))

/-- R151, R133: two counters of a core that hold the same word and are specified receive the same oracle value at a
tick, so from the same count and the same last sample they go to the same count and sample, toggle their pins alike and
make their requests alike. Derived by the spec from R148. -/
def Obligations.SameWordCountsAlike : Prop :=
  ∀ (s : State) (c : CoreId) (i j : CtrId), modeAt s c i = .specified → modeAt s c j = .specified →
    ((s.core c).counter i).sel = ((s.core c).counter j).sel → ((s.core c).counter i).ctr = ((s.core c).counter j).ctr →
    ((s.core c).counter i).prev = ((s.core c).counter j).prev →
    ∃ t, tick c s = .next t ∧ ((t.core c).counter i).ctr = ((t.core c).counter j).ctr ∧
      ((t.core c).counter i).prev = ((t.core c).counter j).prev ∧
      (((t.core c).counter i).pin = ((s.core c).counter i).pin ↔ ((t.core c).counter j).pin = ((s.core c).counter j).pin) ∧
      (((t.core c).counter i).irqs = ((s.core c).counter i).irqs ↔
        ((t.core c).counter j).irqs = ((s.core c).counter j).irqs)

/-- R87, R148, R150: the counter of a word whose EVENT_SELECT the event map does not list. The listed numbers are exactly
those that the default event set defines; where the part's set does not define the number the counter is free while
enabled and held, but for `Prev`, while disabled; and on every part its part of a tick is R148's step, with an oracle value
of at most 3 should the part's own set define the number. The reserved values are the spec's own decisions D14 and D32;
log entries 5, 13 and 26. -/
def Obligations.UnlistedEventSelects : Prop :=
  (∀ w : SelWord, SelectsReserved w ↔ ∀ e ∈ specEventSet, e.select ≠ BitVec.ofNat 8 (w.toNat % 256)) ∧
  (∀ (s : State) (c : CoreId) (i : CtrId),
    (∀ e ∈ s.part.eventSet, e.select.toNat ≠ ((s.core c).counter i).sel.toNat % 256) →
    (((s.core c).counter i).sel.getLsbD 22 = true → modeAt s c i = .free) ∧
    (((s.core c).counter i).sel.getLsbD 22 = false → modeAt s c i = .freePrev)) ∧
  (∀ (s : State) (c : CoreId) (i : CtrId), SelectsReserved ((s.core c).counter i).sel →
    StepsBy (tickCounter c i s) (BitVec.ofNat 8 (((s.core c).counter i).sel.toNat % 256)) false
      (ctlOf ((s.core c).counter i).sel) (s.aimAt c i))

/-! ### One step of the machine -/

/-- A step of a core's instruction stream runs the instruction that its bytes decode to: with its turn next, arranged or
free, and nothing that keeps it from running, `step` is `exec` for that core, and a `#GP` outcome is recorded in the core
(R8, R90, R318). The agenda and the recording are the model's (log entries 6 and 8), and so is that the
bytes it runs are those that memory holds at the pc at that very step (log entry 23; R73 leaves it open). -/
def Obligations.StepRunsDecodedInstruction : Prop :=
  ∀ (s : State) (c : CoreId) (i : Instr),
    (nextTurn s).1 = .instr c → canRun s c = true → fetches s c i →
    (i = .wrmsr → (s.core c).wrmsrSinceTick = false) →
    (∀ t, exec i ((nextTurn s).2.actFor c) = .next t → step s = .next t) ∧
    (∀ r, exec i ((nextTurn s).2.actFor c) = .refused r → step s = .refused r) ∧
    (∀ r, exec i ((nextTurn s).2.actFor c) = .fault r →
      step s = .next (((nextTurn s).2.actFor c).recordGP c 0 (s.core c).pc))

/-- A tick runs the word of each counter. With the core's tick next, arranged or free, `step` is the tick, whatever words
the counters hold; the tick is the parts of the counters 0 to 3 in turn and then its end; and a counter's part is the
instruction that its event-select word decodes to, aimed at the counter (R83, R130, R148). That a word is run as an
instruction is the model's way (log entry 9). -/
def Obligations.TickRunsDecodedWords : Prop :=
  (∀ (s : State) (c : CoreId), (nextTurn s).1 = .tick c → canTick s c = true → step s = tick c (nextTurn s).2) ∧
  (∀ (s : State) (c : CoreId), tick c s =
      Res.andThen (tickCounter c .ctr0 s) fun s0 =>
      Res.andThen (tickCounter c .ctr1 s0) fun s1 =>
      Res.andThen (tickCounter c .ctr2 s1) fun s2 =>
      Res.andThen (tickCounter c .ctr3 s2) fun s3 => .next (endTick c s3)) ∧
  (∀ (s : State) (c : CoreId) (i : CtrId) (w : Instr), decodeSel ((s.core c).counter i).sel = .ok w →
    tickCounter c i s = exec w (s.aimAt c i)) ∧
  (∀ (s : State) (c : CoreId) (w : CtrId → Instr),
    (nextTurn s).1 = .tick c → canTick s c = true → (∀ i, decodeSel ((s.core c).counter i).sel = .ok (w i)) →
    step s =
      Res.andThen (exec (w .ctr0) ((nextTurn s).2.aimAt c .ctr0)) fun s0 =>
      Res.andThen (exec (w .ctr1) (s0.aimAt c .ctr1)) fun s1 =>
      Res.andThen (exec (w .ctr2) (s1.aimAt c .ctr2)) fun s2 =>
      Res.andThen (exec (w .ctr3) (s2.aimAt c .ctr3)) fun s3 => .next (endTick c s3))

/-- A `mov r32, imm32` in the instruction stream writes its register with the immediate, least significant byte first,
moves the pc on by 5, and changes nothing else of the machine. The encoding is R92's, the effect that of
spec/95_test_vectors.md Part 3 ("A `mov` writes its register and changes no PMU state"), both from general knowledge; that
the machine runs it, the pc's 5 and the turn are the model's (log entries 6 and 14), and so is that the bytes it runs are
those that memory holds at that very step (log entry 23; R73 leaves it open). -/
def Obligations.StepRunsMov : Prop :=
  ∀ (s : State) (c : CoreId) (b0 b1 b2 b3 : Byte) (r : IfReg),
    (nextTurn s).1 = .instr c → canRun s c = true → s.window c = [movOpcode r, b0, b1, b2, b3] →
    step s = .next (((nextTurn s).2.actFor c).setCore c
      (afterMov (s.core c) r (b0.toNat + 2 ^ 8 * b1.toNat + 2 ^ 16 * b2.toNat + 2 ^ 24 * b3.toNat)))

/-- R316, R318: an access instruction that raises `#GP(0)` writes no PMU state, no general register and emits no output;
its pc stays at the instruction; and the counter logic goes on ticking as before. That the core waits with the
exception recorded is the model's choice (log entry 8), and so is that the bytes at the pc are fetched from memory as it
is at the step (log entry 23; R73 leaves it open). -/
def Obligations.FaultingAccessChangesNothing : Prop :=
  ∀ (s : State) (c : CoreId) (i : Instr),
    (nextTurn s).1 = .instr c → canRun s c = true → fetches s c i → RaisesGP (s.core c) i →
    (i = .wrmsr → (s.core c).wrmsrSinceTick = false) →
    ∃ t, step s = .next t ∧ OnlyRaised s t c ∧ (∀ c', canTick t c' = canTick s c') ∧ canRun t c = false

/-- R12, R353: at least one tick of a core lies between two WRMSR steps of it. Once a WRMSR has completed, a step at
which the core's next WRMSR has its turn, arranged or free, leaves every core and memory as they were; a tick of the core lets it run. The
spacing is the spec's own decision D15, the waiting the model's way to keep it (log entry 7), and
that the next WRMSR is the bytes memory holds at the step the model's choice (log entry 23; R73 leaves it open). -/
def Obligations.WrmsrWaitsForTick : Prop :=
  ∀ (s : State) (c : CoreId),
    (∀ t, exec .wrmsr (s.actFor c) = .next t → (t.core c).wrmsrSinceTick = true) ∧
    ((nextTurn s).1 = .instr c → fetches s c .wrmsr → (s.core c).wrmsrSinceTick = true →
      step s = .next (nextTurn s).2) ∧
    (∀ t, tick c s = .next t → (t.core c).wrmsrSinceTick = false) ∧
    (∀ t, step s = .next t → (s.core c).wrmsrSinceTick = true → (t.core c).wrmsrSinceTick = false →
      (nextTurn s).1 = .tick c)

/-- R131 for the whole machine: a step that changes an event-select word is a WRMSR of that register by its own core at
CPL 0, and stores EAX; a step that changes a counter is a WRMSR of it by its own core at CPL 0, or a tick of its
core at which it is enabled. Resting on the spec's own decisions D4 (CPL 0, R103), D7 and D8 (the word is EAX, R107) and
D24 (no tick of a halted core, R130); EN is R147; log entry 13. That the WRMSR is the bytes memory holds
at the step is the model's choice (log entry 23; R73 leaves it open). -/
def Obligations.PmuRegisterWriters : Prop :=
  ∀ (s t : State) (c : CoreId) (i : CtrId), step s = .next t →
    (((t.core c).counter i).sel ≠ ((s.core c).counter i).sel →
      (nextTurn s).1 = .instr c ∧ fetches s c .wrmsr ∧ (s.core c).cpl = 0 ∧ (s.core c).ecx = evtSelMsr i ∧
        ((t.core c).counter i).sel = (s.core c).eax) ∧
    (((t.core c).counter i).ctr ≠ ((s.core c).counter i).ctr →
      ((nextTurn s).1 = .instr c ∧ fetches s c .wrmsr ∧ (s.core c).cpl = 0 ∧ (s.core c).ecx = ctrMsr i) ∨
      ((nextTurn s).1 = .tick c ∧ (s.core c).halted = false ∧ ((s.core c).counter i).sel.getLsbD 22 = true))

/-- R45, R46, R109, R114: only a tick of the core moves a `Prev` bit, a pin or a request: no access instruction, no
`mov` and no move of the environment does. Resting on the spec's own decisions D15 and D29; log entry 13. -/
def Obligations.OnlyTicksMovePrevPinAndRequests : Prop :=
  ∀ (s t : State) (c : CoreId) (i : CtrId), step s = .next t → (nextTurn s).1 ≠ .tick c →
    ((t.core c).counter i).prev = ((s.core c).counter i).prev ∧
    ((t.core c).counter i).pin = ((s.core c).counter i).pin ∧
    ((t.core c).counter i).irqs = ((s.core c).counter i).irqs

/-- R153, R330: while a core is halted no step of the machine moves its counters, event-select words, `Prev` bits, pins,
requests or clock: "no tick happens" (R153). That all PMU state is kept and no instruction runs on a halted core (R330) is
the spec's own decision D24; log entry 13. -/
def Obligations.HaltedCoreKeepsPmu : Prop :=
  ∀ (s t : State) (c : CoreId), step s = .next t → (s.core c).halted = true →
    SamePmu (t.core c) (s.core c) ∧ (t.core c).clock = (s.core c).clock

/-- R66: a step of one core's instruction stream or counter logic leaves the other core as it was, whole. Derived by the
spec from R20 and R48. -/
def Obligations.OtherCoreUntouched : Prop :=
  ∀ (s t : State) (c : CoreId), step s = .next t → ((nextTurn s).1 = .instr c ∨ (nextTurn s).1 = .tick c) →
    t.core c.other = s.core c.other

/-- R320: at CPL > 0 no step of a core's instruction stream changes anything of its PMU: user code cannot stop,
redirect or load a counter. The privilege is the spec's own decision D4; log entry 13. -/
def Obligations.UserModeCannotWritePmu : Prop :=
  ∀ (s t : State) (c : CoreId), step s = .next t → (nextTurn s).1 = .instr c → (s.core c).cpl ≠ 0 →
    SamePmu (t.core c) (s.core c)

/-- R60: no instruction and no tick reads or writes memory: with other memory the outcome is the same, and the memory is
the one they started with. -/
def Obligations.InstructionsTouchNoMemory : Prop :=
  ∀ (s : State) (m : List Host.Cell),
    (∀ i, exec i { s with mem := m } = Res.andThen (exec i s) fun t => .next { t with mem := m }) ∧
    (∀ c, tick c { s with mem := m } = Res.andThen (tick c s) fun t => .next { t with mem := m })

/-- Every step keeps the memory in its canonical form, and writes none of it unless the environment does (R60). That the
model has a memory at all is log entry 2. -/
def Obligations.StepKeepsMemoryCanonical : Prop :=
  ∀ s t : State, step s = .next t → memWf s.mem = true →
    memWf t.mem = true ∧ ((∀ a b, (nextTurn s).1 ≠ .env (.store a b)) → t.mem = s.mem)

/-- The memory at reset has the canonical form. -/
def Obligations.ResetMemoryCanonical : Prop := memWf State.reset.mem = true

/-- R144, R310 as an invariant of every step: each counter's requests are from distinct ticks that are over, newest
first: "one request per overflowing tick". Keeping them as a list is log entry 12. -/
def Obligations.StepKeepsRequestsOrdered : Prop :=
  ∀ s t : State, RequestsOrdered s → step s = .next t → RequestsOrdered t

/-- No request has been made at reset. -/
def Obligations.ResetRequestsOrdered : Prop := RequestsOrdered State.reset

/-- The parameters of R7 never change, and the second core of a single-core part never does anything (R326). That the
state holds a second core on every part is log entry 5. -/
def Obligations.AbsentCoreNeverMoves : Prop :=
  ∀ s t : State, step s = .next t →
    t.part = s.part ∧ (s.part.numCores = .one → t.core .core1 = s.core .core1)

/-- The machine right after reset: every counter disabled and 0, nothing requested, CPL 0 on both cores. The model's
choice: the spec gives no reset value (R50); log entry 3 (PRESUMED) for PerfEvtSel, PerfCtr and CPL. -/
def Obligations.ResetCountersDisabled : Prop :=
  ∀ c i, ((State.reset.core c).counter i).sel = 0 ∧ ((State.reset.core c).counter i).ctr = 0 ∧
    ((State.reset.core c).counter i).irqs = [] ∧ (State.reset.core c).cpl = 0 ∧
    ((State.reset.core c).counter i).sel.getLsbD 22 = false

/-! ### Encoding -/

/-- Decode and encode agree: every instruction, with every value of its fields, decodes from its code (R83, R90). -/
def Obligations.DecodeEncode : Prop := ∀ i : Instr, decode (encode i) = .ok i

/-- The other direction for words: a PERFEVTSEL word that decodes is the encoding of what it decodes to, with bits 63–32
dropped (R44, R81). -/
def Obligations.EncodeDecodeWord : Prop :=
  ∀ (w : MsrValue) (i : Instr), decode (.evtsel w) = .ok i → encode i = .evtsel (BitVec.ofNat 64 (w.toNat % 2 ^ 32))

/-- The other direction for bytes: what decodes as an access instruction is its two bytes and nothing more (R90). -/
def Obligations.EncodeDecodeBytes : Prop :=
  ∀ (bs : List Byte) (i : Instr), decode (.bytes bs) = .ok i → encode i = .bytes bs ∧ bs.length = 2

/-- The words that decode to no event are exactly those whose EVENT_SELECT lies in the list of R87, which is the spec's
own decision D32; log entry 13. -/
def Obligations.ReservedEventSelectsRejected : Prop :=
  ∀ w : SelWord,
    decodeSel w = .error (.reservedEvent (BitVec.ofNat 8 (w.toNat % 256))) ↔
      SelectsReserved w

/-- R32: the fields of a stored PERFEVTSEL word are these slices of it. -/
def Obligations.FieldsAreSlicesOfWord : Prop :=
  ∀ (w : SelWord) (i : Instr) (info : EventInfo) (f : EvtCtl), decodeSel w = .ok i → eventOf i = some (info, f) →
    info.select.toNat = w.toNat % 2 ^ 8 ∧ f.unitMask.toNat = w.toNat / 2 ^ 8 % 2 ^ 8 ∧
    f.usr = w.getLsbD 16 ∧ f.os = w.getLsbD 17 ∧ f.e = w.getLsbD 18 ∧ f.pc = w.getLsbD 19 ∧ f.int = w.getLsbD 20 ∧
    f.sbz = w.getLsbD 21 ∧ f.en = w.getLsbD 22 ∧ f.inv = w.getLsbD 23 ∧ f.cntMask.toNat = w.toNat / 2 ^ 24

/-- Words written out from the spec's encodings decode to what they stand for. -/
def Obligations.SpecWordsDecode : Prop :=
  decode (.bytes [0x0F, 0x30]) = .ok .wrmsr ∧ decode (.bytes [0x0F, 0x32]) = .ok .rdmsr ∧
  decode (.bytes [0x0F, 0x33]) = .ok .rdpmc ∧
  decode (.evtsel 0x004300C0) = .ok (.evtC0 ⟨0x00, true, true, false, false, false, false, true, false, 0x00⟩) ∧
  decode (.evtsel 0x01C30001) = .ok (.evt01 ⟨0x00, true, true, false, false, false, false, true, true, 0x01⟩) ∧
  decode (.evtsel 0x004700CD) = .ok (.evtCD ⟨0x00, true, true, true, false, false, false, true, false, 0x00⟩) ∧
  decode (.evtsel 0x0053A8E9) = .ok (.evtE9 ⟨0xA8, true, true, false, false, true, false, true, false, 0x00⟩) ∧
  decode (.evtsel 0x00413F00) = .ok (.evt00 ⟨0x3F, true, false, false, false, false, false, true, false, 0x00⟩)

/-- Well-formed words are exactly those that R148 does not call reserved, for every event word on every part: an
ill-formed word is run with free values, a well-formed one never is but for the dual-core rule R325. The reserved values
are the spec's own decisions D13 and D32; log entry 13. -/
def Obligations.WellFormedWordsAreSpecified : Prop :=
  ∀ (s : State) (c : CoreId) (i : CtrId) (ins : Instr),
    decodeSel ((s.core c).counter i).sel = .ok ins → s.part.numCores = .one →
    (ins.wellFormed s.part = true ↔ Specified s c i)
end

