-- ==== Sys2Proof/Laws/State.lean ====
section
/-! SUPPORT. One lemma per field and per update of the state, and read-after-write for cores and counters. -/

namespace Sys2Proof.Machine

/-! ### `State.setCore` -/

@[simp] theorem core_setCore (s : State) (c c' : CoreId) (x : Core) :
    (s.setCore c x).core c' = if c' = c then x else s.core c' := by
  cases c <;> cases c' <;> rfl

theorem core_setCore_same (s : State) (c : CoreId) (x : Core) : (s.setCore c x).core c = x := by simp

theorem core_setCore_other (s : State) (c c' : CoreId) (x : Core) (h : c' ≠ c) :
    (s.setCore c x).core c' = s.core c' := by simp [h]

@[simp] theorem setCore_part (s : State) (c : CoreId) (x : Core) : (s.setCore c x).part = s.part := by cases c <;> rfl
@[simp] theorem setCore_mem (s : State) (c : CoreId) (x : Core) : (s.setCore c x).mem = s.mem := by cases c <;> rfl
@[simp] theorem setCore_agenda (s : State) (c : CoreId) (x : Core) : (s.setCore c x).agenda = s.agenda := by
  cases c <;> rfl
@[simp] theorem setCore_draws (s : State) (c : CoreId) (x : Core) : (s.setCore c x).draws = s.draws := by
  cases c <;> rfl
@[simp] theorem setCore_acting (s : State) (c : CoreId) (x : Core) : (s.setCore c x).acting = s.acting := by
  cases c <;> rfl
@[simp] theorem setCore_target (s : State) (c : CoreId) (x : Core) : (s.setCore c x).target = s.target := by
  cases c <;> rfl

@[simp] theorem setCore_core_self (s : State) (c : CoreId) : s.setCore c (s.core c) = s := by cases c <;> rfl

@[simp] theorem setCore_setCore (s : State) (c : CoreId) (x y : Core) :
    (s.setCore c x).setCore c y = s.setCore c y := by cases c <;> rfl

/-- Two states are the same machine when their cores and other fields are. -/
theorem State.ext_core {s t : State} (hp : s.part = t.part) (hc : ∀ c, s.core c = t.core c) (hm : s.mem = t.mem)
    (ha : s.agenda = t.agenda) (hd : s.draws = t.draws) (hq : s.acting = t.acting) (ht : s.target = t.target) :
    s = t := by
  obtain ⟨p, a, b, m, g, d, q, u⟩ := s
  obtain ⟨p', a', b', m', g', d', q', u'⟩ := t
  have h0 : a = a' := hc .core0
  have h1 : b = b' := hc .core1
  simp_all

/-! ### `State.setCur`, `State.actFor`, `State.aimAt` -/

@[simp] theorem cur_setCur (s : State) (x : Core) : (s.setCur x).cur = x := by simp [State.setCur, State.cur]
@[simp] theorem core_setCur (s : State) (c : CoreId) (x : Core) :
    (s.setCur x).core c = if c = s.acting then x else s.core c := by simp [State.setCur]
@[simp] theorem setCur_part (s : State) (x : Core) : (s.setCur x).part = s.part := by simp [State.setCur]
@[simp] theorem setCur_mem (s : State) (x : Core) : (s.setCur x).mem = s.mem := by simp [State.setCur]
@[simp] theorem setCur_agenda (s : State) (x : Core) : (s.setCur x).agenda = s.agenda := by simp [State.setCur]
@[simp] theorem setCur_draws (s : State) (x : Core) : (s.setCur x).draws = s.draws := by simp [State.setCur]
@[simp] theorem setCur_acting (s : State) (x : Core) : (s.setCur x).acting = s.acting := by simp [State.setCur]
@[simp] theorem setCur_target (s : State) (x : Core) : (s.setCur x).target = s.target := by simp [State.setCur]

@[simp] theorem actFor_core (s : State) (c c' : CoreId) : (s.actFor c).core c' = s.core c' := by cases c' <;> rfl
@[simp] theorem actFor_cur (s : State) (c : CoreId) : (s.actFor c).cur = s.core c := by cases c <;> rfl
@[simp] theorem actFor_part (s : State) (c : CoreId) : (s.actFor c).part = s.part := rfl
@[simp] theorem actFor_mem (s : State) (c : CoreId) : (s.actFor c).mem = s.mem := rfl
@[simp] theorem actFor_agenda (s : State) (c : CoreId) : (s.actFor c).agenda = s.agenda := rfl
@[simp] theorem actFor_draws (s : State) (c : CoreId) : (s.actFor c).draws = s.draws := rfl
@[simp] theorem actFor_acting (s : State) (c : CoreId) : (s.actFor c).acting = c := rfl
@[simp] theorem actFor_target (s : State) (c : CoreId) : (s.actFor c).target = s.target := rfl

@[simp] theorem aimAt_core (s : State) (c c' : CoreId) (i : CtrId) : (s.aimAt c i).core c' = s.core c' := by
  cases c' <;> rfl
@[simp] theorem aimAt_cur (s : State) (c : CoreId) (i : CtrId) : (s.aimAt c i).cur = s.core c := by cases c <;> rfl
@[simp] theorem aimAt_part (s : State) (c : CoreId) (i : CtrId) : (s.aimAt c i).part = s.part := rfl
@[simp] theorem aimAt_mem (s : State) (c : CoreId) (i : CtrId) : (s.aimAt c i).mem = s.mem := rfl
@[simp] theorem aimAt_agenda (s : State) (c : CoreId) (i : CtrId) : (s.aimAt c i).agenda = s.agenda := rfl
@[simp] theorem aimAt_draws (s : State) (c : CoreId) (i : CtrId) : (s.aimAt c i).draws = s.draws := rfl
@[simp] theorem aimAt_acting (s : State) (c : CoreId) (i : CtrId) : (s.aimAt c i).acting = c := rfl
@[simp] theorem aimAt_target (s : State) (c : CoreId) (i : CtrId) : (s.aimAt c i).target = i := rfl

/-! ### The agenda -/

@[simp] theorem core_withAgenda (s : State) (l : List Turn) (c : CoreId) :
    ({ s with agenda := l } : State).core c = s.core c := by cases c <;> rfl
@[simp] theorem hasCore_withAgenda (s : State) (l : List Turn) (c : CoreId) :
    ({ s with agenda := l } : State).hasCore c = s.hasCore c := by cases c <;> rfl

/-! ### `Core.setCounter` -/

@[simp] theorem counter_setCounter (x : Core) (i j : CtrId) (k : Counter) :
    (x.setCounter i k).counter j = if j = i then k else x.counter j := by
  cases i <;> cases j <;> rfl

@[simp] theorem setCounter_eax (x : Core) (i : CtrId) (k : Counter) : (x.setCounter i k).eax = x.eax := by cases i <;> rfl
@[simp] theorem setCounter_ecx (x : Core) (i : CtrId) (k : Counter) : (x.setCounter i k).ecx = x.ecx := by cases i <;> rfl
@[simp] theorem setCounter_edx (x : Core) (i : CtrId) (k : Counter) : (x.setCounter i k).edx = x.edx := by cases i <;> rfl
@[simp] theorem setCounter_pc (x : Core) (i : CtrId) (k : Counter) : (x.setCounter i k).pc = x.pc := by cases i <;> rfl
@[simp] theorem setCounter_cpl (x : Core) (i : CtrId) (k : Counter) : (x.setCounter i k).cpl = x.cpl := by cases i <;> rfl
@[simp] theorem setCounter_pce (x : Core) (i : CtrId) (k : Counter) : (x.setCounter i k).pce = x.pce := by cases i <;> rfl
@[simp] theorem setCounter_halted (x : Core) (i : CtrId) (k : Counter) :
    (x.setCounter i k).halted = x.halted := by cases i <;> rfl
@[simp] theorem setCounter_raised (x : Core) (i : CtrId) (k : Counter) :
    (x.setCounter i k).raised = x.raised := by cases i <;> rfl
@[simp] theorem setCounter_clock (x : Core) (i : CtrId) (k : Counter) :
    (x.setCounter i k).clock = x.clock := by cases i <;> rfl
@[simp] theorem setCounter_wrmsrSinceTick (x : Core) (i : CtrId) (k : Counter) :
    (x.setCounter i k).wrmsrSinceTick = x.wrmsrSinceTick := by cases i <;> rfl

/-! ### `Core.setReg`, `Core.advance`, `Core.loadEdxEax` -/

@[simp] theorem counter_setReg (x : Core) (r : IfReg) (v : Reg) (i : CtrId) :
    (x.setReg r v).counter i = x.counter i := by cases r <;> cases i <;> rfl
@[simp] theorem setReg_clock (x : Core) (r : IfReg) (v : Reg) : (x.setReg r v).clock = x.clock := by cases r <;> rfl
@[simp] theorem setReg_pc (x : Core) (r : IfReg) (v : Reg) : (x.setReg r v).pc = x.pc := by cases r <;> rfl
@[simp] theorem setReg_cpl (x : Core) (r : IfReg) (v : Reg) : (x.setReg r v).cpl = x.cpl := by cases r <;> rfl
@[simp] theorem setReg_pce (x : Core) (r : IfReg) (v : Reg) : (x.setReg r v).pce = x.pce := by cases r <;> rfl
@[simp] theorem setReg_halted (x : Core) (r : IfReg) (v : Reg) : (x.setReg r v).halted = x.halted := by cases r <;> rfl
@[simp] theorem setReg_raised (x : Core) (r : IfReg) (v : Reg) : (x.setReg r v).raised = x.raised := by cases r <;> rfl
@[simp] theorem setReg_wrmsrSinceTick (x : Core) (r : IfReg) (v : Reg) :
    (x.setReg r v).wrmsrSinceTick = x.wrmsrSinceTick := by cases r <;> rfl
@[simp] theorem reg_setReg (x : Core) (r q : IfReg) (v : Reg) :
    (x.setReg r v).reg q = if q = r then v else x.reg q := by cases r <;> cases q <;> rfl

@[simp] theorem counter_advance (x : Core) (n : Nat) (i : CtrId) : (x.advance n).counter i = x.counter i := by
  cases i <;> rfl
@[simp] theorem advance_clock (x : Core) (n : Nat) : (x.advance n).clock = x.clock := rfl
@[simp] theorem advance_pc (x : Core) (n : Nat) : (x.advance n).pc = x.pc + BitVec.ofNat 64 n := rfl

/-- WRMSR's completed core, with the pc field written out. -/
theorem setCounter_advance (x : Core) (i : CtrId) (k : Counter) :
    ({ (x.setCounter i k).advance 2 with wrmsrSinceTick := true } : Core) =
      { x.setCounter i k with pc := x.pc + 2, wrmsrSinceTick := true } := by cases i <;> rfl

@[simp] theorem counter_loadEdxEax (x : Core) (v : MsrValue) (i : CtrId) :
    (x.loadEdxEax v).counter i = x.counter i := by cases i <;> rfl
@[simp] theorem loadEdxEax_clock (x : Core) (v : MsrValue) : (x.loadEdxEax v).clock = x.clock := rfl

/-! ### `Core.writeMsr` -/

@[simp] theorem writeMsr_clock (x : Core) (r : MsrReg) (v : MsrValue) : (x.writeMsr r v).clock = x.clock := by
  cases r <;> simp [Core.writeMsr]

/-- What a PMU register write leaves of a counter: at most its event-select word and its count change. -/
theorem counter_writeMsr (x : Core) (r : MsrReg) (v : MsrValue) (j : CtrId) :
    (x.writeMsr r v).counter j =
      { x.counter j with
        sel := if r = .evtSel j then v.setWidth 32 else (x.counter j).sel
        ctr := if r = .ctr j then v.setWidth 48 else (x.counter j).ctr } := by
  rcases r with i | i <;> simp only [Core.writeMsr, counter_setCounter] <;> by_cases h : j = i
  · subst h; simp
  · have h' : i ≠ j := fun e => h e.symm
    simp [h, h']
  · subst h; simp
  · have h' : i ≠ j := fun e => h e.symm
    simp [h, h']

/-! ### `Counter.ticked` -/

@[simp] theorem ticked_sel (k : Counter) (m : CountMode) (f : EvtCtl) (l : BitVec 2) (n : Occ) (t d : Nat) :
    (k.ticked m f l n t d).sel = k.sel := rfl
@[simp] theorem ticked_ctr (k : Counter) (m : CountMode) (f : EvtCtl) (l : BitVec 2) (n : Occ) (t d : Nat) :
    (k.ticked m f l n t d).ctr = nextCtr m f l n d k := rfl
@[simp] theorem ticked_prev (k : Counter) (m : CountMode) (f : EvtCtl) (l : BitVec 2) (n : Occ) (t d : Nat) :
    (k.ticked m f l n t d).prev = nextPrev m f n d := rfl
@[simp] theorem ticked_pin (k : Counter) (m : CountMode) (f : EvtCtl) (l : BitVec 2) (n : Occ) (t d : Nat) :
    (k.ticked m f l n t d).pin = nextPin m f l n d k := rfl
@[simp] theorem ticked_irqs (k : Counter) (m : CountMode) (f : EvtCtl) (l : BitVec 2) (n : Occ) (t d : Nat) :
    (k.ticked m f l n t d).irqs = if requests m f l n d k then t :: k.irqs else k.irqs := rfl

/-! ### `State.count` -/

@[simp] theorem count_part (s : State) (m : CountMode) (f : EvtCtl) (n : Occ) : (s.count m f n).part = s.part := by
  simp [State.count]
@[simp] theorem count_mem (s : State) (m : CountMode) (f : EvtCtl) (n : Occ) : (s.count m f n).mem = s.mem := by
  simp [State.count]
@[simp] theorem count_agenda (s : State) (m : CountMode) (f : EvtCtl) (n : Occ) : (s.count m f n).agenda = s.agenda := by
  simp [State.count]
@[simp] theorem count_acting (s : State) (m : CountMode) (f : EvtCtl) (n : Occ) : (s.count m f n).acting = s.acting := by
  simp [State.count]
@[simp] theorem count_target (s : State) (m : CountMode) (f : EvtCtl) (n : Occ) : (s.count m f n).target = s.target := by
  simp [State.count]
@[simp] theorem count_draws (s : State) (m : CountMode) (f : EvtCtl) (n : Occ) :
    (s.count m f n).draws = s.draws + m.draws := rfl

/-- The step of a counter writes that counter of the acting core and nothing else of any core. -/
theorem core_count (s : State) (m : CountMode) (f : EvtCtl) (n : Occ) (c : CoreId) :
    (s.count m f n).core c =
      if c = s.acting then
        s.cur.setCounter s.target ((s.cur.counter s.target).ticked m f s.cur.cpl n s.cur.clock s.draws)
      else s.core c := by
  rw [← core_setCur]
  cases c <;> rfl

end Sys2Proof.Machine
end

