-- ==== Sys2Proof/Laws/Access.lean ====
section
/-! SUPPORT. What the register access instructions can do, once each, and the number spaces they use. -/

namespace Sys2Proof.Machine

@[simp] theorem msrReg_msrNumber (r : MsrReg) : msrReg (msrNumber r) = some r := by
  rcases r with i | i <;> cases i <;> decide

/-- An MSR number names a PMU register exactly when it is that register's number. -/
theorem msrReg_eq_some {a : Reg} {r : MsrReg} : msrReg a = some r ↔ a = msrNumber r := by
  constructor
  · intro h
    have := List.find?_some h
    exact (beq_iff_eq.1 this).symm
  · rintro rfl; exact msrReg_msrNumber r

@[simp] theorem pmcIndex_ctrNumber (i : CtrId) : pmcIndex (BitVec.ofNat 32 (ctrNumber i)) = some i := by
  cases i <;> decide

theorem pmcIndex_eq_some {a : Reg} {i : CtrId} : pmcIndex a = some i ↔ a = BitVec.ofNat 32 (ctrNumber i) := by
  constructor
  · intro h
    have := List.find?_some h
    exact (beq_iff_eq.1 this).symm
  · rintro rfl; exact pmcIndex_ctrNumber i

/-- All 32 bits of the index count: an index names no counter exactly when it is above 3. -/
theorem pmcIndex_eq_none {a : Reg} : pmcIndex a = none ↔ 3 < a.toNat := by
  constructor
  · intro h
    simp only [pmcIndex, CtrId.all, List.find?_eq_none, List.mem_cons, List.not_mem_nil, or_false,
      forall_eq_or_imp, forall_eq, ctrNumber, beq_iff_eq] at h
    by_contra hc
    bv_omega
  · intro h
    simp only [pmcIndex, CtrId.all, List.find?_eq_none, List.mem_cons, List.not_mem_nil, or_false,
      forall_eq_or_imp, forall_eq, ctrNumber, beq_iff_eq]
    bv_omega

/-- The low 32 bits of EDX:EAX are EAX. -/
@[simp] theorem edxEax_setWidth32 (x : Core) : x.edxEax.setWidth 32 = x.eax := by
  ext i hi
  have h : x.edxEax.getLsbD i = if i < 32 then x.eax.getLsbD i else x.edx.getLsbD (i - 32) :=
    BitVec.getLsbD_append
  simp [h, hi]

/-- Everything WRMSR can do when it completes. -/
theorem execWrmsr_next {s t : State} (h : execWrmsr s = .next t) :
    s.cur.cpl = 0 ∧ ∃ r, s.cur.ecx = msrNumber r ∧
      t = s.setCur { (s.cur.writeMsr r s.cur.edxEax).advance 2 with wrmsrSinceTick := true } := by
  unfold execWrmsr at h
  split at h
  · cases h
  · rename_i hc
    split at h
    · rename_i r hr
      exact ⟨by simpa using hc, r, msrReg_eq_some.1 hr, by cases h; rfl⟩
    · cases h

/-- Everything RDMSR can do when it completes. -/
theorem execRdmsr_next {s t : State} (h : execRdmsr s = .next t) :
    s.cur.cpl = 0 ∧ ∃ r, s.cur.ecx = msrNumber r ∧
      t = s.setCur ((s.cur.loadEdxEax (s.cur.readMsr r)).advance 2) := by
  unfold execRdmsr at h
  split at h
  · cases h
  · rename_i hc
    split at h
    · rename_i r hr
      exact ⟨by simpa using hc, r, msrReg_eq_some.1 hr, by cases h; rfl⟩
    · cases h

/-- Everything RDPMC can do when it completes. -/
theorem execRdpmc_next {s t : State} (h : execRdpmc s = .next t) :
    (s.cur.cpl = 0 ∨ s.cur.pce = true) ∧ ∃ i, s.cur.ecx = BitVec.ofNat 32 (ctrNumber i) ∧
      t = s.setCur ((s.cur.loadEdxEax (s.cur.readMsr (.ctr i))).advance 2) := by
  unfold execRdpmc at h
  split at h
  · cases h
  · rename_i hc
    split at h
    · rename_i i hi
      refine ⟨?_, i, pmcIndex_eq_some.1 hi, by cases h; rfl⟩
      by_cases h0 : s.cur.cpl = 0
      · exact .inl h0
      · right; simpa using fun h => hc ⟨h0, h⟩
    · cases h

end Sys2Proof.Machine
end

