-- ==== Sys2Proof/Laws/Counting.lean ====
section
/-! SUPPORT. What the counter logic can do: an event word is the step of R148 for its catalogue entry, the decoder and
the catalogue agree, and a tick steps each of the four counters once. -/

namespace Sys2Proof.Machine

/-- Every event word runs the step of R148 for its own catalogue entry. -/
theorem exec_event {i : Instr} {info : EventInfo} {f : EvtCtl} (h : eventOf i = some (info, f)) (s : State) :
    exec i s = countEvent info f s := by
  cases i <;> simp only [eventOf, reduceCtorEq, Option.some.injEq, Prod.mk.injEq] at h <;>
    obtain ⟨rfl, rfl⟩ := h <;> rfl

/-- A row of the event map is a row of the catalogue with the same EVENT_SELECT. -/
theorem eventRows_catalogue :
    ∀ r ∈ eventRows, ∀ f, ∃ info, eventOf (r.2 f) = some (info, f) ∧ info.select = r.1 := by
  simp only [eventRows, List.forall_mem_cons]
  repeat' apply And.intro
  all_goals first
    | exact fun f => ⟨_, rfl, rfl⟩
    | exact fun x hx => absurd hx List.not_mem_nil

/-- What the decoder of PERFEVTSEL words answers is an event word of the catalogue with the word's own fields. -/
theorem decodeSel_ok {w : SelWord} {i : Instr} (h : decodeSel w = .ok i) :
    ∃ info, eventOf i = some (info, ctlOf w) ∧ info.select = eventSelectOf w := by
  unfold decodeSel at h
  split at h
  · rename_i mk hmk
    simp only [eventRow, Option.map_eq_some_iff] at hmk
    obtain ⟨r, hr, rfl⟩ := hmk
    obtain ⟨info, he, hs⟩ := eventRows_catalogue r (List.mem_of_find?_eq_some hr) (ctlOf w)
    have hk := List.find?_some hr
    cases h
    exact ⟨info, he, hs.trans (by simpa using hk)⟩
  · cases h

/-- Every event that a word selects has the word's EVENT_SELECT. -/
theorem selectedEvent_select (w : SelWord) : (selectedEvent w).select = eventSelectOf w := by
  unfold selectedEvent
  split
  · rename_i ins hd
    obtain ⟨info, he, hs⟩ := decodeSel_ok hd
    rw [he]; exact hs
  · rfl

/-- A word that decodes selects the catalogue entry of its event. -/
theorem selectedEvent_ok {w : SelWord} {i : Instr} {info : EventInfo} {f : EvtCtl} (hd : decodeSel w = .ok i)
    (he : eventOf i = some (info, f)) : selectedEvent w = info := by
  simp only [selectedEvent, hd, he]

/-- A word that does not decode selects an event without description. -/
theorem selectedEvent_error {w : SelWord} {e : DecodeError} (hd : decodeSel w = .error e) :
    selectedEvent w = unlistedEvent (eventSelectOf w) := by
  simp only [selectedEvent, hd]

/-- The number of occurrences that counter `i` of core `c` gets at its next tick, where it is specified. -/
def sampleAt (s : State) (c : CoreId) (i : CtrId) : Occ :=
  (s.aimAt c i).sample (selectedEvent ((s.core c).counter i).sel) (ctlOf ((s.core c).counter i).sel)

/-- One counter's part of a tick is the step of R148 for the event its word selects, listed or not. -/
theorem tickCounter_countEvent (c : CoreId) (i : CtrId) (s : State) :
    tickCounter c i s =
      countEvent (selectedEvent ((s.core c).counter i).sel) (ctlOf ((s.core c).counter i).sel) (s.aimAt c i) := by
  unfold tickCounter
  cases hd : decodeSel ((s.core c).counter i).sel with
  | ok ins =>
    obtain ⟨info, he, -⟩ := decodeSel_ok hd
    rw [selectedEvent_ok hd he]; exact exec_event he _
  | error e => rw [selectedEvent_error hd]; rfl

/-- Everything one counter's part of a tick does: it always goes on, with the step of R148 in the counter's mode. -/
theorem tickCounter_eq (c : CoreId) (i : CtrId) (s : State) :
    tickCounter c i s =
      .next ((s.aimAt c i).count (modeAt s c i) (ctlOf ((s.core c).counter i).sel) (sampleAt s c i)) :=
  tickCounter_countEvent c i s

/-- The counter after its part of a tick. -/
def tickedAt (s : State) (c : CoreId) (i : CtrId) (d : Nat) : Counter :=
  ((s.core c).counter i).ticked (modeAt s c i) (ctlOf ((s.core c).counter i).sel) (s.core c).cpl (sampleAt s c i)
    (s.core c).clock d

/-- What the mode, the sample and so the next value of a counter depend on. -/
theorem modeAt_congr {s t : State} {c : CoreId} {i : CtrId} (hp : t.part = s.part)
    (hk : (t.core c).counter i = (s.core c).counter i) (ho : t.core c.other = s.core c.other) :
    modeAt t c i = modeAt s c i := by
  unfold modeAt countMode nbConflict
  simp [hp, hk, ho]

theorem sampleAt_congr {s t : State} {c : CoreId} {i : CtrId} (hp : t.part = s.part)
    (hk : (t.core c).counter i = (s.core c).counter i) (ht : (t.core c).clock = (s.core c).clock) :
    sampleAt t c i = sampleAt s c i := by
  unfold sampleAt State.sample
  simp [hp, hk, ht]

/-- One counter's part of a tick: that counter takes its step, the draws go on, nothing else of any core moves. -/
theorem tickCounter_spec (c : CoreId) (i : CtrId) (s : State) :
    ∃ t, tickCounter c i s = .next t ∧ t.part = s.part ∧ t.mem = s.mem ∧ t.agenda = s.agenda ∧
      t.draws = s.draws + (modeAt s c i).draws ∧ t.acting = c ∧ t.target = i ∧
      t.core c = (s.core c).setCounter i (tickedAt s c i s.draws) ∧ ∀ c', c' ≠ c → t.core c' = s.core c' := by
  refine ⟨_, tickCounter_eq c i s, ?_⟩
  refine ⟨by simp, by simp, by simp, by simp, by simp, by simp, ?_, ?_⟩
  · simp [core_count, tickedAt]
  · intro c' h; simp [core_count, h]

/-- The number of the free value that counter `i` uses in a tick of core `c`: those of the counters before it come
first. -/
def drawAt (s : State) (c : CoreId) : CtrId → Nat
  | .ctr0 => s.draws
  | .ctr1 => s.draws + (modeAt s c .ctr0).draws
  | .ctr2 => s.draws + (modeAt s c .ctr0).draws + (modeAt s c .ctr1).draws
  | .ctr3 => s.draws + (modeAt s c .ctr0).draws + (modeAt s c .ctr1).draws + (modeAt s c .ctr2).draws

theorem other_ne (c : CoreId) : c.other ≠ c := by cases c <;> decide

/-- Everything a tick does (R130, R148, R151): it always goes on; each counter of the core takes its step once, from
the state before the tick; the clock goes on; a WRMSR may run again; no other core and no other field of the core
moves. -/
theorem tick_spec (c : CoreId) (s : State) :
    ∃ t, tick c s = .next t ∧ t.part = s.part ∧ t.mem = s.mem ∧ t.agenda = s.agenda ∧
      (∀ i, (t.core c).counter i = tickedAt s c i (drawAt s c i)) ∧
      (t.core c).clock = (s.core c).clock + 1 ∧ (t.core c).wrmsrSinceTick = false ∧
      SameBorrowed (t.core c) (s.core c) ∧ ∀ c', c' ≠ c → t.core c' = s.core c' := by
  obtain ⟨s0, e0, p0, m0, a0, d0, -, -, k0, o0⟩ := tickCounter_spec c .ctr0 s
  obtain ⟨s1, e1, p1, m1, a1, d1, -, -, k1, o1⟩ := tickCounter_spec c .ctr1 s0
  obtain ⟨s2, e2, p2, m2, a2, d2, -, -, k2, o2⟩ := tickCounter_spec c .ctr2 s1
  obtain ⟨s3, e3, p3, m3, a3, d3, -, -, k3, o3⟩ := tickCounter_spec c .ctr3 s2
  have q0 := o0 _ (other_ne c)
  have q1 := (o1 _ (other_ne c)).trans q0
  have q2 := (o2 _ (other_ne c)).trans q1
  have c1 : (s0.core c).counter .ctr1 = (s.core c).counter .ctr1 := by simp [k0]
  have c2 : (s1.core c).counter .ctr2 = (s.core c).counter .ctr2 := by simp [k0, k1]
  have c3 : (s2.core c).counter .ctr3 = (s.core c).counter .ctr3 := by simp [k0, k1, k2]
  have t0 : (s0.core c).clock = (s.core c).clock := by simp [k0]
  have t1 : (s1.core c).clock = (s.core c).clock := by simp [k1, t0]
  have t2 : (s2.core c).clock = (s.core c).clock := by simp [k2, t1]
  have l0 : (s0.core c).cpl = (s.core c).cpl := by simp [k0]
  have l1 : (s1.core c).cpl = (s.core c).cpl := by simp [k1, l0]
  have l2 : (s2.core c).cpl = (s.core c).cpl := by simp [k2, l1]
  have w1 := modeAt_congr p0 c1 q0
  have w2 := modeAt_congr (p1.trans p0) c2 q1
  have w3 := modeAt_congr (p2.trans (p1.trans p0)) c3 q2
  have n1 := sampleAt_congr p0 c1 t0
  have n2 := sampleAt_congr (p1.trans p0) c2 t1
  have n3 := sampleAt_congr (p2.trans (p1.trans p0)) c3 t2
  refine ⟨endTick c s3, by simp [tick, Res.andThen, e0, e1, e2, e3], ?_, ?_, ?_, ?_, ?_, ?_, ?_, ?_⟩
  · simp [endTick, p3, p2, p1, p0]
  · simp [endTick, m3, m2, m1, m0]
  · simp [endTick, a3, a2, a1, a0]
  · intro i
    have e : ((endTick c s3).core c).counter i = (s3.core c).counter i := by
      simp only [endTick, core_setCore, if_true]; cases i <;> rfl
    rw [e]
    cases i
    · simp [k3, k2, k1, k0, drawAt]
    · simp [k3, k2, k1, drawAt, tickedAt, w1, n1, c1, t0, l0, d0]
    · simp [k3, k2, drawAt, tickedAt, w2, n2, c2, t1, l1, d1, w1, d0]
    · simp [k3, drawAt, tickedAt, w3, n3, c3, t2, l2, d2, w2, d1, w1, d0]
  · simp [endTick, k3, t2]
  · simp [endTick]
  · simp [SameBorrowed, endTick, k3, k2, k1, k0]
  · intro c' h
    simp [endTick, h, o3 c' h, o2 c' h, o1 c' h, o0 c' h]

end Sys2Proof.Machine
end

