-- ==== Sys2Proof/Laws/Memory.lean ====
section
/-! SUPPORT. Memory: read after write, and every operation keeps the canonical form. -/

namespace Sys2Proof.Machine

theorem memRead_memWrite_same (m : List Host.Cell) (a : Nat) (v : Byte) : memRead (memWrite m a v) a = some v := by
  induction m with
  | nil => simp [memWrite, memRead]
  | cons p rest ih =>
    obtain ⟨b, w⟩ := p
    unfold memWrite
    split
    · simp [memRead]
    · split
      · simp [memRead]
      · simp [memRead, *]

theorem memRead_memWrite_other (m : List Host.Cell) (a x : Nat) (v : Byte) (h : x ≠ a) :
    memRead (memWrite m a v) x = memRead m x := by
  induction m with
  | nil => simp [memWrite, memRead, h]
  | cons p rest ih =>
    obtain ⟨b, w⟩ := p
    unfold memWrite
    split
    · simp [memRead, h]
    · split
      · subst_vars; simp [memRead, h]
      · simp [memRead, ih]

theorem risesFrom_mono {lo lo' : Nat} {m : List Host.Cell} (h : risesFrom lo m = true) (hl : lo' ≤ lo) :
    risesFrom lo' m = true := by
  cases m with
  | nil => rfl
  | cons p rest =>
    simp only [risesFrom, Bool.and_eq_true, decide_eq_true_eq] at h ⊢
    exact ⟨by omega, h.2⟩

theorem risesFrom_memWrite {lo : Nat} {m : List Host.Cell} {a : Nat} (v : Byte) (h : risesFrom lo m = true)
    (ha : lo ≤ a) : risesFrom lo (memWrite m a v) = true := by
  induction m generalizing lo with
  | nil => simp [memWrite, risesFrom, ha]
  | cons p rest ih =>
    obtain ⟨b, w⟩ := p
    simp only [risesFrom, Bool.and_eq_true, decide_eq_true_eq] at h
    unfold memWrite
    split
    · simp only [risesFrom, Bool.and_eq_true, decide_eq_true_eq]; exact ⟨ha, by omega, h.2⟩
    · split
      · subst_vars; simp [risesFrom, h]
      · simp only [risesFrom, Bool.and_eq_true, decide_eq_true_eq]
        exact ⟨h.1, ih h.2 (by omega)⟩

theorem all_memWrite {p : Host.Cell → Bool} {m : List Host.Cell} {a : Nat} {v : Byte} (h : m.all p = true)
    (ha : p (a, v) = true) : (memWrite m a v).all p = true := by
  induction m with
  | nil => simp [memWrite, ha]
  | cons q rest ih =>
    obtain ⟨b, w⟩ := q
    simp only [List.all_cons, Bool.and_eq_true] at h
    unfold memWrite
    split
    · simp [ha, h]
    · split <;> simp [ha, h, ih h.2]

/-- Every memory operation keeps the canonical form. -/
theorem memWf_memWrite {m : List Host.Cell} {a : Nat} (v : Byte) (h : memWf m = true) (ha : a < 2 ^ 64) :
    memWf (memWrite m a v) = true := by
  simp only [memWf, Bool.and_eq_true] at h ⊢
  exact ⟨risesFrom_memWrite v h.1 (Nat.zero_le a), all_memWrite h.2 (by simpa using ha)⟩

end Sys2Proof.Machine
end

