-- ==== Sys2Proof/Laws/PerInstr.lean ====
section
/-! SUPPORT. Per-instruction lemmas: the code of every instruction is the row of spec/opcode_table.json that its mnemonic
names, that is, its low bits (the mask is all ones from bit 0 up) are the row's match. -/

namespace Sys2Proof

/-- The bits of a code, numbered as the table numbers them: two bytes with byte 0 in bits 15–8 (R90), or the word. -/
def Code.bits : Code → Nat
  | .bytes bs => bs.foldl (fun acc b => acc * 256 + b.toNat) 0
  | .evtsel w => w.toNat

/-- The table's match and mask of an instruction (spec/opcode_table.json). -/
def Laws.TableRow.row : Instr → Nat × Nat
  | .wrmsr => (0x0F30, 0xFFFF)
  | .rdmsr => (0x0F32, 0xFFFF)
  | .rdpmc => (0x0F33, 0xFFFF)
  | .evt00 _ => (0x00, 0xFF)
  | .evt01 _ => (0x01, 0xFF)
  | .evt02 _ => (0x02, 0xFF)
  | .evt20 _ => (0x20, 0xFF)
  | .evt21 _ => (0x21, 0xFF)
  | .evt22 _ => (0x22, 0xFF)
  | .evt23 _ => (0x23, 0xFF)
  | .evt24 _ => (0x24, 0xFF)
  | .evt26 _ => (0x26, 0xFF)
  | .evt27 _ => (0x27, 0xFF)
  | .evt40 _ => (0x40, 0xFF)
  | .evt41 _ => (0x41, 0xFF)
  | .evt42 _ => (0x42, 0xFF)
  | .evt43 _ => (0x43, 0xFF)
  | .evt44 _ => (0x44, 0xFF)
  | .evt45 _ => (0x45, 0xFF)
  | .evt46 _ => (0x46, 0xFF)
  | .evt47 _ => (0x47, 0xFF)
  | .evt48 _ => (0x48, 0xFF)
  | .evt49 _ => (0x49, 0xFF)
  | .evt4A _ => (0x4A, 0xFF)
  | .evt4B _ => (0x4B, 0xFF)
  | .evt4C _ => (0x4C, 0xFF)
  | .evt65 _ => (0x65, 0xFF)
  | .evt67 _ => (0x67, 0xFF)
  | .evt6C _ => (0x6C, 0xFF)
  | .evt6D _ => (0x6D, 0xFF)
  | .evt76 _ => (0x76, 0xFF)
  | .evt7D _ => (0x7D, 0xFF)
  | .evt7E _ => (0x7E, 0xFF)
  | .evt7F _ => (0x7F, 0xFF)
  | .evt80 _ => (0x80, 0xFF)
  | .evt81 _ => (0x81, 0xFF)
  | .evt82 _ => (0x82, 0xFF)
  | .evt83 _ => (0x83, 0xFF)
  | .evt84 _ => (0x84, 0xFF)
  | .evt85 _ => (0x85, 0xFF)
  | .evt86 _ => (0x86, 0xFF)
  | .evt87 _ => (0x87, 0xFF)
  | .evt88 _ => (0x88, 0xFF)
  | .evt89 _ => (0x89, 0xFF)
  | .evtC0 _ => (0xC0, 0xFF)
  | .evtC1 _ => (0xC1, 0xFF)
  | .evtC2 _ => (0xC2, 0xFF)
  | .evtC3 _ => (0xC3, 0xFF)
  | .evtC4 _ => (0xC4, 0xFF)
  | .evtC5 _ => (0xC5, 0xFF)
  | .evtC6 _ => (0xC6, 0xFF)
  | .evtC7 _ => (0xC7, 0xFF)
  | .evtC8 _ => (0xC8, 0xFF)
  | .evtC9 _ => (0xC9, 0xFF)
  | .evtCA _ => (0xCA, 0xFF)
  | .evtCB _ => (0xCB, 0xFF)
  | .evtCC _ => (0xCC, 0xFF)
  | .evtCD _ => (0xCD, 0xFF)
  | .evtCE _ => (0xCE, 0xFF)
  | .evtCF _ => (0xCF, 0xFF)
  | .evtD0 _ => (0xD0, 0xFF)
  | .evtD1 _ => (0xD1, 0xFF)
  | .evtD2 _ => (0xD2, 0xFF)
  | .evtD3 _ => (0xD3, 0xFF)
  | .evtD4 _ => (0xD4, 0xFF)
  | .evtD5 _ => (0xD5, 0xFF)
  | .evtD6 _ => (0xD6, 0xFF)
  | .evtD7 _ => (0xD7, 0xFF)
  | .evtD8 _ => (0xD8, 0xFF)
  | .evtD9 _ => (0xD9, 0xFF)
  | .evtDA _ => (0xDA, 0xFF)
  | .evtDB _ => (0xDB, 0xFF)
  | .evtDC _ => (0xDC, 0xFF)
  | .evtDD _ => (0xDD, 0xFF)
  | .evtDE _ => (0xDE, 0xFF)
  | .evtDF _ => (0xDF, 0xFF)
  | .evtE0 _ => (0xE0, 0xFF)
  | .evtE1 _ => (0xE1, 0xFF)
  | .evtE3 _ => (0xE3, 0xFF)
  | .evtE4 _ => (0xE4, 0xFF)
  | .evtE5 _ => (0xE5, 0xFF)
  | .evtE8 _ => (0xE8, 0xFF)
  | .evtE9 _ => (0xE9, 0xFF)
  | .evtEA _ => (0xEA, 0xFF)
  | .evtEB _ => (0xEB, 0xFF)
  | .evtEC _ => (0xEC, 0xFF)
  | .evtEE _ => (0xEE, 0xFF)
  | .evtF6 _ => (0xF6, 0xFF)
  | .evtF7 _ => (0xF7, 0xFF)
  | .evtF8 _ => (0xF8, 0xFF)

/-- The code of `i` lies in its row of the table. -/
def Laws.TableRow.Statement (i : Instr) : Prop :=
  (encode i).bits % (Laws.TableRow.row i).2.succ = (Laws.TableRow.row i).1

/-- The low byte of an assembled PERFEVTSEL word is its EVENT_SELECT (R81). -/
theorem word_toNat_mod (es : BitVec 8) (f : EvtCtl) : ((EvtCtl.word es f).setWidth 64).toNat % 256 = es.toNat := by
  have h : (EvtCtl.word es f).setWidth 8 = es := by
    ext i hi
    have h : (EvtCtl.word es f).getLsbD i = if i < 8 then es.getLsbD i else _ := BitVec.getLsbD_append
    simp [h, hi]
  have h2 := congrArg BitVec.toNat h
  simp only [BitVec.toNat_setWidth] at h2 ⊢
  omega

theorem Laws.TableRow.wrmsr : Laws.TableRow.Statement .wrmsr := rfl
theorem Laws.TableRow.rdmsr : Laws.TableRow.Statement .rdmsr := rfl
theorem Laws.TableRow.rdpmc : Laws.TableRow.Statement .rdpmc := rfl
theorem Laws.TableRow.evt00 (f : EvtCtl) : Laws.TableRow.Statement (.evt00 f) := word_toNat_mod 0x00 f
theorem Laws.TableRow.evt01 (f : EvtCtl) : Laws.TableRow.Statement (.evt01 f) := word_toNat_mod 0x01 f
theorem Laws.TableRow.evt02 (f : EvtCtl) : Laws.TableRow.Statement (.evt02 f) := word_toNat_mod 0x02 f
theorem Laws.TableRow.evt20 (f : EvtCtl) : Laws.TableRow.Statement (.evt20 f) := word_toNat_mod 0x20 f
theorem Laws.TableRow.evt21 (f : EvtCtl) : Laws.TableRow.Statement (.evt21 f) := word_toNat_mod 0x21 f
theorem Laws.TableRow.evt22 (f : EvtCtl) : Laws.TableRow.Statement (.evt22 f) := word_toNat_mod 0x22 f
theorem Laws.TableRow.evt23 (f : EvtCtl) : Laws.TableRow.Statement (.evt23 f) := word_toNat_mod 0x23 f
theorem Laws.TableRow.evt24 (f : EvtCtl) : Laws.TableRow.Statement (.evt24 f) := word_toNat_mod 0x24 f
theorem Laws.TableRow.evt26 (f : EvtCtl) : Laws.TableRow.Statement (.evt26 f) := word_toNat_mod 0x26 f
theorem Laws.TableRow.evt27 (f : EvtCtl) : Laws.TableRow.Statement (.evt27 f) := word_toNat_mod 0x27 f
theorem Laws.TableRow.evt40 (f : EvtCtl) : Laws.TableRow.Statement (.evt40 f) := word_toNat_mod 0x40 f
theorem Laws.TableRow.evt41 (f : EvtCtl) : Laws.TableRow.Statement (.evt41 f) := word_toNat_mod 0x41 f
theorem Laws.TableRow.evt42 (f : EvtCtl) : Laws.TableRow.Statement (.evt42 f) := word_toNat_mod 0x42 f
theorem Laws.TableRow.evt43 (f : EvtCtl) : Laws.TableRow.Statement (.evt43 f) := word_toNat_mod 0x43 f
theorem Laws.TableRow.evt44 (f : EvtCtl) : Laws.TableRow.Statement (.evt44 f) := word_toNat_mod 0x44 f
theorem Laws.TableRow.evt45 (f : EvtCtl) : Laws.TableRow.Statement (.evt45 f) := word_toNat_mod 0x45 f
theorem Laws.TableRow.evt46 (f : EvtCtl) : Laws.TableRow.Statement (.evt46 f) := word_toNat_mod 0x46 f
theorem Laws.TableRow.evt47 (f : EvtCtl) : Laws.TableRow.Statement (.evt47 f) := word_toNat_mod 0x47 f
theorem Laws.TableRow.evt48 (f : EvtCtl) : Laws.TableRow.Statement (.evt48 f) := word_toNat_mod 0x48 f
theorem Laws.TableRow.evt49 (f : EvtCtl) : Laws.TableRow.Statement (.evt49 f) := word_toNat_mod 0x49 f
theorem Laws.TableRow.evt4A (f : EvtCtl) : Laws.TableRow.Statement (.evt4A f) := word_toNat_mod 0x4A f
theorem Laws.TableRow.evt4B (f : EvtCtl) : Laws.TableRow.Statement (.evt4B f) := word_toNat_mod 0x4B f
theorem Laws.TableRow.evt4C (f : EvtCtl) : Laws.TableRow.Statement (.evt4C f) := word_toNat_mod 0x4C f
theorem Laws.TableRow.evt65 (f : EvtCtl) : Laws.TableRow.Statement (.evt65 f) := word_toNat_mod 0x65 f
theorem Laws.TableRow.evt67 (f : EvtCtl) : Laws.TableRow.Statement (.evt67 f) := word_toNat_mod 0x67 f
theorem Laws.TableRow.evt6C (f : EvtCtl) : Laws.TableRow.Statement (.evt6C f) := word_toNat_mod 0x6C f
theorem Laws.TableRow.evt6D (f : EvtCtl) : Laws.TableRow.Statement (.evt6D f) := word_toNat_mod 0x6D f
theorem Laws.TableRow.evt76 (f : EvtCtl) : Laws.TableRow.Statement (.evt76 f) := word_toNat_mod 0x76 f
theorem Laws.TableRow.evt7D (f : EvtCtl) : Laws.TableRow.Statement (.evt7D f) := word_toNat_mod 0x7D f
theorem Laws.TableRow.evt7E (f : EvtCtl) : Laws.TableRow.Statement (.evt7E f) := word_toNat_mod 0x7E f
theorem Laws.TableRow.evt7F (f : EvtCtl) : Laws.TableRow.Statement (.evt7F f) := word_toNat_mod 0x7F f
theorem Laws.TableRow.evt80 (f : EvtCtl) : Laws.TableRow.Statement (.evt80 f) := word_toNat_mod 0x80 f
theorem Laws.TableRow.evt81 (f : EvtCtl) : Laws.TableRow.Statement (.evt81 f) := word_toNat_mod 0x81 f
theorem Laws.TableRow.evt82 (f : EvtCtl) : Laws.TableRow.Statement (.evt82 f) := word_toNat_mod 0x82 f
theorem Laws.TableRow.evt83 (f : EvtCtl) : Laws.TableRow.Statement (.evt83 f) := word_toNat_mod 0x83 f
theorem Laws.TableRow.evt84 (f : EvtCtl) : Laws.TableRow.Statement (.evt84 f) := word_toNat_mod 0x84 f
theorem Laws.TableRow.evt85 (f : EvtCtl) : Laws.TableRow.Statement (.evt85 f) := word_toNat_mod 0x85 f
theorem Laws.TableRow.evt86 (f : EvtCtl) : Laws.TableRow.Statement (.evt86 f) := word_toNat_mod 0x86 f
theorem Laws.TableRow.evt87 (f : EvtCtl) : Laws.TableRow.Statement (.evt87 f) := word_toNat_mod 0x87 f
theorem Laws.TableRow.evt88 (f : EvtCtl) : Laws.TableRow.Statement (.evt88 f) := word_toNat_mod 0x88 f
theorem Laws.TableRow.evt89 (f : EvtCtl) : Laws.TableRow.Statement (.evt89 f) := word_toNat_mod 0x89 f
theorem Laws.TableRow.evtC0 (f : EvtCtl) : Laws.TableRow.Statement (.evtC0 f) := word_toNat_mod 0xC0 f
theorem Laws.TableRow.evtC1 (f : EvtCtl) : Laws.TableRow.Statement (.evtC1 f) := word_toNat_mod 0xC1 f
theorem Laws.TableRow.evtC2 (f : EvtCtl) : Laws.TableRow.Statement (.evtC2 f) := word_toNat_mod 0xC2 f
theorem Laws.TableRow.evtC3 (f : EvtCtl) : Laws.TableRow.Statement (.evtC3 f) := word_toNat_mod 0xC3 f
theorem Laws.TableRow.evtC4 (f : EvtCtl) : Laws.TableRow.Statement (.evtC4 f) := word_toNat_mod 0xC4 f
theorem Laws.TableRow.evtC5 (f : EvtCtl) : Laws.TableRow.Statement (.evtC5 f) := word_toNat_mod 0xC5 f
theorem Laws.TableRow.evtC6 (f : EvtCtl) : Laws.TableRow.Statement (.evtC6 f) := word_toNat_mod 0xC6 f
theorem Laws.TableRow.evtC7 (f : EvtCtl) : Laws.TableRow.Statement (.evtC7 f) := word_toNat_mod 0xC7 f
theorem Laws.TableRow.evtC8 (f : EvtCtl) : Laws.TableRow.Statement (.evtC8 f) := word_toNat_mod 0xC8 f
theorem Laws.TableRow.evtC9 (f : EvtCtl) : Laws.TableRow.Statement (.evtC9 f) := word_toNat_mod 0xC9 f
theorem Laws.TableRow.evtCA (f : EvtCtl) : Laws.TableRow.Statement (.evtCA f) := word_toNat_mod 0xCA f
theorem Laws.TableRow.evtCB (f : EvtCtl) : Laws.TableRow.Statement (.evtCB f) := word_toNat_mod 0xCB f
theorem Laws.TableRow.evtCC (f : EvtCtl) : Laws.TableRow.Statement (.evtCC f) := word_toNat_mod 0xCC f
theorem Laws.TableRow.evtCD (f : EvtCtl) : Laws.TableRow.Statement (.evtCD f) := word_toNat_mod 0xCD f
theorem Laws.TableRow.evtCE (f : EvtCtl) : Laws.TableRow.Statement (.evtCE f) := word_toNat_mod 0xCE f
theorem Laws.TableRow.evtCF (f : EvtCtl) : Laws.TableRow.Statement (.evtCF f) := word_toNat_mod 0xCF f
theorem Laws.TableRow.evtD0 (f : EvtCtl) : Laws.TableRow.Statement (.evtD0 f) := word_toNat_mod 0xD0 f
theorem Laws.TableRow.evtD1 (f : EvtCtl) : Laws.TableRow.Statement (.evtD1 f) := word_toNat_mod 0xD1 f
theorem Laws.TableRow.evtD2 (f : EvtCtl) : Laws.TableRow.Statement (.evtD2 f) := word_toNat_mod 0xD2 f
theorem Laws.TableRow.evtD3 (f : EvtCtl) : Laws.TableRow.Statement (.evtD3 f) := word_toNat_mod 0xD3 f
theorem Laws.TableRow.evtD4 (f : EvtCtl) : Laws.TableRow.Statement (.evtD4 f) := word_toNat_mod 0xD4 f
theorem Laws.TableRow.evtD5 (f : EvtCtl) : Laws.TableRow.Statement (.evtD5 f) := word_toNat_mod 0xD5 f
theorem Laws.TableRow.evtD6 (f : EvtCtl) : Laws.TableRow.Statement (.evtD6 f) := word_toNat_mod 0xD6 f
theorem Laws.TableRow.evtD7 (f : EvtCtl) : Laws.TableRow.Statement (.evtD7 f) := word_toNat_mod 0xD7 f
theorem Laws.TableRow.evtD8 (f : EvtCtl) : Laws.TableRow.Statement (.evtD8 f) := word_toNat_mod 0xD8 f
theorem Laws.TableRow.evtD9 (f : EvtCtl) : Laws.TableRow.Statement (.evtD9 f) := word_toNat_mod 0xD9 f
theorem Laws.TableRow.evtDA (f : EvtCtl) : Laws.TableRow.Statement (.evtDA f) := word_toNat_mod 0xDA f
theorem Laws.TableRow.evtDB (f : EvtCtl) : Laws.TableRow.Statement (.evtDB f) := word_toNat_mod 0xDB f
theorem Laws.TableRow.evtDC (f : EvtCtl) : Laws.TableRow.Statement (.evtDC f) := word_toNat_mod 0xDC f
theorem Laws.TableRow.evtDD (f : EvtCtl) : Laws.TableRow.Statement (.evtDD f) := word_toNat_mod 0xDD f
theorem Laws.TableRow.evtDE (f : EvtCtl) : Laws.TableRow.Statement (.evtDE f) := word_toNat_mod 0xDE f
theorem Laws.TableRow.evtDF (f : EvtCtl) : Laws.TableRow.Statement (.evtDF f) := word_toNat_mod 0xDF f
theorem Laws.TableRow.evtE0 (f : EvtCtl) : Laws.TableRow.Statement (.evtE0 f) := word_toNat_mod 0xE0 f
theorem Laws.TableRow.evtE1 (f : EvtCtl) : Laws.TableRow.Statement (.evtE1 f) := word_toNat_mod 0xE1 f
theorem Laws.TableRow.evtE3 (f : EvtCtl) : Laws.TableRow.Statement (.evtE3 f) := word_toNat_mod 0xE3 f
theorem Laws.TableRow.evtE4 (f : EvtCtl) : Laws.TableRow.Statement (.evtE4 f) := word_toNat_mod 0xE4 f
theorem Laws.TableRow.evtE5 (f : EvtCtl) : Laws.TableRow.Statement (.evtE5 f) := word_toNat_mod 0xE5 f
theorem Laws.TableRow.evtE8 (f : EvtCtl) : Laws.TableRow.Statement (.evtE8 f) := word_toNat_mod 0xE8 f
theorem Laws.TableRow.evtE9 (f : EvtCtl) : Laws.TableRow.Statement (.evtE9 f) := word_toNat_mod 0xE9 f
theorem Laws.TableRow.evtEA (f : EvtCtl) : Laws.TableRow.Statement (.evtEA f) := word_toNat_mod 0xEA f
theorem Laws.TableRow.evtEB (f : EvtCtl) : Laws.TableRow.Statement (.evtEB f) := word_toNat_mod 0xEB f
theorem Laws.TableRow.evtEC (f : EvtCtl) : Laws.TableRow.Statement (.evtEC f) := word_toNat_mod 0xEC f
theorem Laws.TableRow.evtEE (f : EvtCtl) : Laws.TableRow.Statement (.evtEE f) := word_toNat_mod 0xEE f
theorem Laws.TableRow.evtF6 (f : EvtCtl) : Laws.TableRow.Statement (.evtF6 f) := word_toNat_mod 0xF6 f
theorem Laws.TableRow.evtF7 (f : EvtCtl) : Laws.TableRow.Statement (.evtF7 f) := word_toNat_mod 0xF7 f
theorem Laws.TableRow.evtF8 (f : EvtCtl) : Laws.TableRow.Statement (.evtF8 f) := word_toNat_mod 0xF8 f

end Sys2Proof
end

