-- ==== Sys2Proof/Laws/Step.lean ====
section
/-! SUPPORT. What one step can do, said once: which turn it takes and what each agent's turn leaves. -/

namespace Sys2Proof.Machine

/-- Taking the next turn moves nothing of the machine but the agenda and the number of free values. -/
theorem nextTurn_spec (s : State) :
    (nextTurn s).2.part = s.part ∧ (∀ c, (nextTurn s).2.core c = s.core c) ∧ (nextTurn s).2.mem = s.mem := by
  unfold nextTurn
  split <;> exact ⟨rfl, fun c => by cases c <;> rfl, rfl⟩

/-- An instruction stream fetches access instructions only (R100). -/
theorem decodeStream_access {bs : List Byte} {i : Instr} (h : decodeStream bs = .ok (.access i)) :
    i = .wrmsr ∨ i = .rdmsr ∨ i = .rdpmc := by
  cases bs with
  | nil => cases h
  | cons b rest =>
    simp only [decodeStream] at h
    split at h
    · split at h <;> cases h
    · split at h
      · rename_i j _ hj
        cases h
        unfold decodeAccess at hj
        simp only at hj
        split at hj
        · split at hj
          · cases hj
          · split at hj
            · cases hj; exact .inl rfl
            · split at hj
              · cases hj; exact .inr (.inl rfl)
              · split at hj
                · cases hj; exact .inr (.inr rfl)
                · cases hj
        · cases hj
      · cases h

/-- The fault that an access instruction may end in is the `#GP` of the acting core, error code 0, at its own pc
(R316). -/
theorem exec_access_fault {i : Instr} {s : State} {r : Fault} (hi : i = .wrmsr ∨ i = .rdmsr ∨ i = .rdpmc)
    (h : exec i s = .fault r) : r = .generalProtection s.acting 0 s.cur.pc := by
  rcases hi with rfl | rfl | rfl <;> simp only [exec, execWrmsr, execRdmsr, execRdpmc, raiseGP] at h <;>
    split at h <;> first
    | (cases h; rfl)
    | (split at h <;> first
        | (cases h; rfl)
        | cases h)

/-- What one step of an instruction stream leaves, when it goes on. -/
inductive InstrEffect (c : CoreId) (s : State) : State → Prop
  /-- A WRMSR that must wait for a tick (R12). -/
  | waits (h : fetches s c .wrmsr) (hw : (s.core c).wrmsrSinceTick = true) : InstrEffect c s s
  /-- The access instruction completes. -/
  | completes (i : Instr) (t : State) (h : fetches s c i) (hi : i = .wrmsr ∨ i = .rdmsr ∨ i = .rdpmc)
      (hx : exec i (s.actFor c) = .next t) : InstrEffect c s t
  /-- The access instruction raises `#GP(0)`, which is recorded (R318). -/
  | raises (i : Instr) (h : fetches s c i) (hi : i = .wrmsr ∨ i = .rdmsr ∨ i = .rdpmc)
      (hx : exec i (s.actFor c) = .fault (.generalProtection c 0 (s.core c).pc)) :
      InstrEffect c s ((s.actFor c).recordGP c 0 (s.core c).pc)
  /-- A `mov` of the spec's programs (R92). -/
  | moves (r : IfReg) (v : Reg) : InstrEffect c s (execMovImm r v (s.actFor c))

theorem runInstr_next {c : CoreId} {s t : State} (h : runInstr c s = .next t) : InstrEffect c s t := by
  unfold runInstr at h
  split at h
  · rename_i i hd
    have hi := decodeStream_access hd
    split at h
    · rename_i hw
      cases h
      simp only [mustWait, Bool.and_eq_true, beq_iff_eq] at hw
      obtain ⟨rfl, hw⟩ := hw
      exact .waits hd hw
    · unfold catchGP at h
      split at h
      · rename_i s' he
        cases h
        exact .completes i _ hd hi he
      · rename_i c' code pc he
        have := exec_access_fault hi he
        cases this
        cases h
        simpa using InstrEffect.raises (c := c) (s := s) i hd hi (by simpa using he)
      · cases h
      · cases h
  · cases h; exact .moves _ _
  · unfold fetchStop at h
    split at h <;> cases h

/-- What one turn leaves, when it goes on. -/
inductive TurnEffect (s : State) : Turn → State → Prop
  /-- The instruction stream of `c` cannot take its turn. -/
  | stalled (c : CoreId) (hr : canRun s c = false) : TurnEffect s (.instr c) s
  /-- The counter logic of `c` cannot take its turn. -/
  | stopped (c : CoreId) (hk : canTick s c = false) : TurnEffect s (.tick c) s
  /-- The instruction stream of `c` runs. -/
  | instr (c : CoreId) (t : State) (hr : canRun s c = true) (h : InstrEffect c s t) : TurnEffect s (.instr c) t
  /-- The counter logic of `c` ticks. -/
  | tick (c : CoreId) (t : State) (hk : canTick s c = true) (h : tick c s = .next t) : TurnEffect s (.tick c) t
  /-- The environment moves. -/
  | env (m : EnvMove) : TurnEffect s (.env m) (applyEnv m s)

theorem runTurn_next {u : Turn} {s t : State} (h : runTurn u s = .next t) : TurnEffect s u t := by
  cases u with
  | instr c =>
    simp only [runTurn] at h
    split at h
    · exact .instr c t ‹_› (runInstr_next h)
    · rename_i hr; cases h; exact .stalled c (by simpa using hr)
  | tick c =>
    simp only [runTurn] at h
    split at h
    · exact .tick c t ‹_› h
    · rename_i hk; cases h; exact .stopped c (by simpa using hk)
  | env m => cases h; exact .env m

/-- What one step leaves, when it goes on: one turn's effect on the machine with that turn taken. -/
theorem step_next {s t : State} (h : step s = .next t) : TurnEffect (nextTurn s).2 (nextTurn s).1 t :=
  runTurn_next h

/-- A move of the environment touches no PMU register, hidden bit, pin or request (R131). -/
theorem applyEnv_counter (m : EnvMove) (s : State) (c : CoreId) (i : CtrId) :
    ((applyEnv m s).core c).counter i = (s.core c).counter i := by
  cases m <;> simp only [applyEnv, envCore, State.deliver]
  case store => cases c <;> rfl
  all_goals
    split
    · simp only [core_setCore]
      split
      · subst_vars; first | (simp only [counter_setReg]) | (cases i <;> rfl)
      · rfl
    · rfl

/-- What an access instruction leaves of the acting core's counters: RDMSR and RDPMC leave all, WRMSR writes the
register ECX names. -/
theorem exec_access_counter {i : Instr} {s t : State} (hi : i = .wrmsr ∨ i = .rdmsr ∨ i = .rdpmc)
    (h : exec i s = .next t) (j : CtrId) :
    (t.cur.counter j = s.cur.counter j) ∨
      (i = .wrmsr ∧ s.cur.cpl = 0 ∧ ∃ r, s.cur.ecx = msrNumber r ∧
        t.cur.counter j = (s.cur.writeMsr r s.cur.edxEax).counter j) := by
  rcases hi with rfl | rfl | rfl
  · obtain ⟨h0, r, hr, rfl⟩ := execWrmsr_next h
    refine .inr ⟨rfl, h0, r, hr, ?_⟩
    rw [cur_setCur]; cases j <;> rfl
  · obtain ⟨-, r, -, rfl⟩ := execRdmsr_next h
    simp
  · obtain ⟨-, r, -, rfl⟩ := execRdpmc_next h
    simp

/-- An access instruction leaves every other field of the machine, and the other core. -/
theorem exec_access_frame {i : Instr} {s t : State} (hi : i = .wrmsr ∨ i = .rdmsr ∨ i = .rdpmc)
    (h : exec i s = .next t) :
    t.part = s.part ∧ t.mem = s.mem ∧ t.agenda = s.agenda ∧ t.draws = s.draws ∧ t.acting = s.acting ∧
      t.target = s.target ∧ t.cur.clock = s.cur.clock ∧ ∀ c, c ≠ s.acting → t.core c = s.core c := by
  rcases hi with rfl | rfl | rfl
  · obtain ⟨-, r, -, rfl⟩ := execWrmsr_next h
    refine ⟨by simp, by simp, by simp, by simp, by simp, by simp, ?_, fun c hc => by simp [hc]⟩
    rw [cur_setCur]; exact writeMsr_clock _ _ _
  · obtain ⟨-, r, -, rfl⟩ := execRdmsr_next h
    exact ⟨by simp, by simp, by simp, by simp, by simp, by simp, by simp, fun c hc => by simp [hc]⟩
  · obtain ⟨-, r, -, rfl⟩ := execRdpmc_next h
    exact ⟨by simp, by simp, by simp, by simp, by simp, by simp, by simp, fun c hc => by simp [hc]⟩

/-- Everything one turn can do to one counter: nothing; or WRMSR by its own core at CPL 0 writes the register that ECX
names; or a tick of its core steps it. -/
theorem turn_counter {s : State} {u : Turn} {t : State} (h : TurnEffect s u t) (c : CoreId) (i : CtrId) :
    (t.core c).counter i = (s.core c).counter i ∨
    (u = .instr c ∧ canRun s c = true ∧ fetches s c .wrmsr ∧ (s.core c).cpl = 0 ∧
      ∃ r, (s.core c).ecx = msrNumber r ∧
        (t.core c).counter i = ((s.core c).writeMsr r (s.core c).edxEax).counter i) ∨
    (u = .tick c ∧ canTick s c = true ∧ (t.core c).counter i = tickedAt s c i (drawAt s c i)) := by
  cases h with
  | stalled => exact .inl rfl
  | stopped => exact .inl rfl
  | instr c' t hr h =>
    cases h with
    | waits => exact .inl rfl
    | completes j t hf hj hx =>
      obtain ⟨-, -, -, -, ha, -, -, ho⟩ := exec_access_frame hj hx
      by_cases hc : c = c'
      · subst hc
        have ht : t.cur = t.core c := by unfold State.cur; rw [ha]; rfl
        rcases exec_access_counter hj hx i with e | ⟨rfl, h0, r, hr', e⟩
        · left; rw [← ht, e, actFor_cur]
        · exact .inr (.inl ⟨rfl, hr, hf, by simpa using h0, r, by simpa using hr', by rw [← ht, e, actFor_cur]⟩)
      · left; rw [ho c (by simpa using hc), actFor_core]
    | raises j hf hj hx =>
      left
      simp only [State.recordGP, core_setCore]
      split
      · subst_vars; cases i <;> simp [Core.counter]
      · simp
    | moves r v =>
      left
      simp only [execMovImm, core_setCur]
      split
      · rename_i h; simp only [actFor_acting] at h; subst h; simp
      · simp
  | tick c' t hk hT =>
    obtain ⟨t', h, -, -, -, hk', -, -, -, ho⟩ := tick_spec c' s
    rw [hT] at h; cases h
    by_cases hc : c = c'
    · subst hc; exact .inr (.inr ⟨rfl, hk, hk' i⟩)
    · left; rw [ho c hc]
  | env m => exact .inl (applyEnv_counter m s c i)

end Sys2Proof.Machine
end

