-- ==== Sys2Proof/Tests/Slice0.lean ====
section
/-! SUPPORT. The model's own tests. Expected values are the spec's: the example words of the event rules, the
vectors of spec/95_test_vectors.md (named A1, B1, C1, … as there) and the tables of the rules cited. -/

namespace Sys2Proof.Tests

open Sys2Proof.Machine

/-- A single-core part of this revision with the spec's default event set. -/
def part (rev : Rev) : Part := ⟨rev, .one, specEventSet, .bytes64, .single⟩

/-! ### Well-formedness: one ill-formed term for each check, which the check refuses -/

/-- `0043_xx__h` as control fields: USR, OS and EN, with this UNIT_MASK (R200). -/
def counted (um : BitVec 8) : EvtCtl := ⟨um, true, true, false, false, false, false, true, false, 0⟩

theorem test_wellFormed_accepts :
    (Instr.evtC0 (counted 0)).wellFormed (part .preD) = true ∧ Instr.wrmsr.wellFormed (part .preD) = true := by
  decide
theorem test_wellFormed_refuses_cntMask : (Instr.evtC0 { counted 0 with cntMask := 4 }).wellFormed (part .E) = false := by decide
theorem test_wellFormed_refuses_bit21 : (Instr.evtC0 { counted 0 with sbz := true }).wellFormed (part .E) = false := by decide
theorem test_wellFormed_refuses_unitMask : (Instr.evt00 (counted 0x40)).wellFormed (part .E) = false := by decide
theorem test_wellFormed_refuses_revision : (Instr.evtE9 (counted 0xA8)).wellFormed (part .D) = false := by decide

/-- spec/95_test_vectors.md 2.10: the revision limits of R297. -/
theorem test_revision_limits :
    (Instr.evtE5 (counted 0x3C)).wellFormed (part .preD) = false ∧ (Instr.evtE5 (counted 0x3C)).wellFormed (part .D) = true ∧
    (Instr.evtEC (counted 0x40)).wellFormed (part .preD) = false ∧ (Instr.evtEC (counted 0x40)).wellFormed (part .D) = true ∧
    (Instr.evtEC (counted 0x0F)).wellFormed (part .preD) = true ∧
    (Instr.evtE8 (counted 0x80)).wellFormed (part .D) = false ∧ (Instr.evtE8 (counted 0x80)).wellFormed (part .E) = true ∧
    (Instr.evtE8 (counted 0)).wellFormed (part .preD) = true ∧
    (Instr.evtE9 (counted 0xA8)).wellFormed (part .E) = true ∧ (Instr.evtEA (counted 0x3D)).wellFormed (part .D) = false ∧
    (Instr.evtEA (counted 0x3D)).wellFormed (part .E) = true := by
  decide

/-! ### Decoding and encoding -/

/-- The access instructions' bytes (R90). -/
theorem test_decode_access :
    decode (.bytes [0x0F, 0x30]) = .ok .wrmsr ∧ decode (.bytes [0x0F, 0x32]) = .ok .rdmsr ∧
    decode (.bytes [0x0F, 0x33]) = .ok .rdpmc := by decide

/-- Bytes that are no access instruction are rejected by name (R91, R93). -/
theorem test_decode_rejects :
    decode (.bytes [0x48, 0x0F, 0x30]) = .error (.notInSpec 0x48) ∧
    decode (.bytes [0x0F, 0x31]) = .error (.notInSpec0F 0x31) ∧ decode (.bytes [0x0F]) = .error .truncated ∧
    decodeSel 0x00430003 = .error (.reservedEvent 0x03) := by decide

/-- The fields of spec/95_test_vectors.md 2.1: `01C3_0001h`, `0053_A8E9h`, `FFFF_FFFFh`. -/
theorem test_fields :
    ctlOf 0x01C30001 = ⟨0, true, true, false, false, false, false, true, true, 1⟩ ∧
    ctlOf 0x0053A8E9 = ⟨0xA8, true, true, false, false, true, false, true, false, 0⟩ ∧
    ctlOf 0xFFFFFFFF = ⟨0xFF, true, true, true, true, true, true, true, true, 0xFF⟩ := by decide

/-- R81 on the word of spec/95_test_vectors.md 1.2. -/
theorem test_encode_C0 : encode (.evtC0 (counted 0)) = .evtsel 0x004300C0 := by decide

/-- The programs' `mov ecx, C001_0000h` and `mov eax, 0003_00C0h` (spec/95_test_vectors.md P1). -/
theorem test_decode_mov :
    decodeStream [0xB9, 0x00, 0x00, 0x01, 0xC0] = .ok (.movImm .ecx 0xC0010000) ∧
    decodeStream [0xB8, 0xC0, 0x00, 0x03, 0x00] = .ok (.movImm .eax 0x000300C0) := by decide

/-- Table rows as numbers: a 16-bit one and an 8-bit one. -/
theorem test_decodeTableWord :
    decodeTableWord 16 0x0F32 = some .rdmsr ∧
    decodeTableWord 8 0xE9 = some (.evtE9 ⟨0, false, false, false, false, false, false, false, false, 0⟩) := by decide

/-- The example words of the event rules of spec/42_events_fpu_ls_dc.md ("Word", R200) decode to their events. -/
theorem test_decode_fp_ls_dc_0 :
    decodeSel 0x00433F00 = .ok (.evt00 (counted 0x3F)) ∧
    decodeSel 0x00430001 = .ok (.evt01 (counted 0x00)) ∧
    decodeSel 0x00430002 = .ok (.evt02 (counted 0x00)) ∧
    decodeSel 0x00437F20 = .ok (.evt20 (counted 0x7F)) ∧
    decodeSel 0x00430021 = .ok (.evt21 (counted 0x00)) ∧
    decodeSel 0x00430022 = .ok (.evt22 (counted 0x00)) ∧
    decodeSel 0x00430023 = .ok (.evt23 (counted 0x00)) ∧
    decodeSel 0x00430124 = .ok (.evt24 (counted 0x01)) ∧
    decodeSel 0x00430040 = .ok (.evt40 (counted 0x00)) ∧
    decodeSel 0x00430041 = .ok (.evt41 (counted 0x00)) ∧
    decodeSel 0x00431F42 = .ok (.evt42 (counted 0x1F)) ∧
    decodeSel 0x00431F43 = .ok (.evt43 (counted 0x1F)) ∧
    decodeSel 0x00431F44 = .ok (.evt44 (counted 0x1F)) ∧
    decodeSel 0x00430045 = .ok (.evt45 (counted 0x00)) ∧
    decodeSel 0x00430046 = .ok (.evt46 (counted 0x00)) ∧
    decodeSel 0x00430047 = .ok (.evt47 (counted 0x00)) := by
  decide

theorem test_decode_fp_ls_dc_1 :
    decodeSel 0x00430048 = .ok (.evt48 (counted 0x00)) ∧
    decodeSel 0x00430049 = .ok (.evt49 (counted 0x00)) ∧
    decodeSel 0x0043034A = .ok (.evt4A (counted 0x03)) ∧
    decodeSel 0x0043074B = .ok (.evt4B (counted 0x07)) ∧
    decodeSel 0x0043024C = .ok (.evt4C (counted 0x02)) ∧
    decodeSel 0x00438365 = .ok (.evt65 (counted 0x83)) := by
  decide

/-- The example words of the event rules of spec/43_events_l2_ic_ex.md ("Word", R200) decode to their events. -/
theorem test_decode_l2_ic_ex_0 :
    decodeSel 0x00430026 = .ok (.evt26 (counted 0x00)) ∧
    decodeSel 0x00430027 = .ok (.evt27 (counted 0x00)) ∧
    decodeSel 0x00430267 = .ok (.evt67 (counted 0x02)) ∧
    decodeSel 0x0043076C = .ok (.evt6C (counted 0x07)) ∧
    decodeSel 0x0043016D = .ok (.evt6D (counted 0x01)) ∧
    decodeSel 0x00430076 = .ok (.evt76 (counted 0x00)) ∧
    decodeSel 0x00431F7D = .ok (.evt7D (counted 0x1F)) ∧
    decodeSel 0x0043077E = .ok (.evt7E (counted 0x07)) ∧
    decodeSel 0x0043037F = .ok (.evt7F (counted 0x03)) ∧
    decodeSel 0x00430080 = .ok (.evt80 (counted 0x00)) ∧
    decodeSel 0x00430081 = .ok (.evt81 (counted 0x00)) ∧
    decodeSel 0x00430082 = .ok (.evt82 (counted 0x00)) ∧
    decodeSel 0x00430083 = .ok (.evt83 (counted 0x00)) ∧
    decodeSel 0x00430084 = .ok (.evt84 (counted 0x00)) ∧
    decodeSel 0x00430085 = .ok (.evt85 (counted 0x00)) ∧
    decodeSel 0x00430086 = .ok (.evt86 (counted 0x00)) := by
  decide

theorem test_decode_l2_ic_ex_1 :
    decodeSel 0x00430087 = .ok (.evt87 (counted 0x00)) ∧
    decodeSel 0x00430088 = .ok (.evt88 (counted 0x00)) ∧
    decodeSel 0x00430089 = .ok (.evt89 (counted 0x00)) ∧
    decodeSel 0x004300C0 = .ok (.evtC0 (counted 0x00)) ∧
    decodeSel 0x004300C1 = .ok (.evtC1 (counted 0x00)) ∧
    decodeSel 0x004300C2 = .ok (.evtC2 (counted 0x00)) ∧
    decodeSel 0x004300C3 = .ok (.evtC3 (counted 0x00)) ∧
    decodeSel 0x004300C4 = .ok (.evtC4 (counted 0x00)) ∧
    decodeSel 0x004300C5 = .ok (.evtC5 (counted 0x00)) ∧
    decodeSel 0x004300C6 = .ok (.evtC6 (counted 0x00)) ∧
    decodeSel 0x004300C7 = .ok (.evtC7 (counted 0x00)) ∧
    decodeSel 0x004300C8 = .ok (.evtC8 (counted 0x00)) ∧
    decodeSel 0x004300C9 = .ok (.evtC9 (counted 0x00)) ∧
    decodeSel 0x004300CA = .ok (.evtCA (counted 0x00)) ∧
    decodeSel 0x00430FCB = .ok (.evtCB (counted 0x0F)) ∧
    decodeSel 0x004307CC = .ok (.evtCC (counted 0x07)) := by
  decide

theorem test_decode_l2_ic_ex_2 :
    decodeSel 0x004300CD = .ok (.evtCD (counted 0x00)) ∧
    decodeSel 0x004300CE = .ok (.evtCE (counted 0x00)) ∧
    decodeSel 0x004300CF = .ok (.evtCF (counted 0x00)) ∧
    decodeSel 0x004300D0 = .ok (.evtD0 (counted 0x00)) ∧
    decodeSel 0x004300D1 = .ok (.evtD1 (counted 0x00)) ∧
    decodeSel 0x004300D2 = .ok (.evtD2 (counted 0x00)) ∧
    decodeSel 0x004300D3 = .ok (.evtD3 (counted 0x00)) ∧
    decodeSel 0x004300D4 = .ok (.evtD4 (counted 0x00)) ∧
    decodeSel 0x004300D5 = .ok (.evtD5 (counted 0x00)) ∧
    decodeSel 0x004300D6 = .ok (.evtD6 (counted 0x00)) ∧
    decodeSel 0x004300D7 = .ok (.evtD7 (counted 0x00)) ∧
    decodeSel 0x004300D8 = .ok (.evtD8 (counted 0x00)) ∧
    decodeSel 0x004300D9 = .ok (.evtD9 (counted 0x00)) ∧
    decodeSel 0x004300DA = .ok (.evtDA (counted 0x00)) ∧
    decodeSel 0x00430FDB = .ok (.evtDB (counted 0x0F)) ∧
    decodeSel 0x004300DC = .ok (.evtDC (counted 0x00)) := by
  decide

theorem test_decode_l2_ic_ex_3 :
    decodeSel 0x004300DD = .ok (.evtDD (counted 0x00)) ∧
    decodeSel 0x004300DE = .ok (.evtDE (counted 0x00)) ∧
    decodeSel 0x004300DF = .ok (.evtDF (counted 0x00)) := by
  decide

/-- The example words of the event rules of spec/44_events_nb.md ("Word", R200) decode to their events. -/
theorem test_decode_nb_0 :
    decodeSel 0x004307E0 = .ok (.evtE0 (counted 0x07)) ∧
    decodeSel 0x004300E1 = .ok (.evtE1 (counted 0x00)) ∧
    decodeSel 0x004307E3 = .ok (.evtE3 (counted 0x07)) ∧
    decodeSel 0x00430FE4 = .ok (.evtE4 (counted 0x0F)) ∧
    decodeSel 0x00433CE5 = .ok (.evtE5 (counted 0x3C)) ∧
    decodeSel 0x004380E8 = .ok (.evtE8 (counted 0x80)) ∧
    decodeSel 0x0043A8E9 = .ok (.evtE9 (counted 0xA8)) ∧
    decodeSel 0x00433DEA = .ok (.evtEA (counted 0x3D)) ∧
    decodeSel 0x00437FEB = .ok (.evtEB (counted 0x7F)) ∧
    decodeSel 0x00430FEC = .ok (.evtEC (counted 0x0F)) ∧
    decodeSel 0x004307EE = .ok (.evtEE (counted 0x07)) ∧
    decodeSel 0x00430FF6 = .ok (.evtF6 (counted 0x0F)) ∧
    decodeSel 0x00430FF7 = .ok (.evtF7 (counted 0x0F)) ∧
    decodeSel 0x00430FF8 = .ok (.evtF8 (counted 0x0F)) := by
  decide

/-! ### The register access instructions (spec/95_test_vectors.md 2.2) -/

/-- A state of a single-core part of revision E whose core 0 is `x`. -/
def with0 (x : Core) : State := { State.reset with part := part .E, core0 := x }

/-- Core 0 at reset but for its interface registers and privilege. -/
def regs (ecx edx eax : Reg) (cpl : BitVec 2) (pce : Bool) : Core :=
  { Core.reset with ecx := ecx, edx := edx, eax := eax, cpl := cpl, pce := pce }

/-- The core after a step, where there is one. -/
def core0Of : Res → Option Core
  | .next s => some s.core0
  | _ => none

/-- The fault of a step, where it ends in one. -/
def faultOf : Res → Option Fault
  | .fault r => some r
  | _ => none

/-- The refusal of a step, where it ends in one. -/
def refusalOf : Res → Option Refusal
  | .refused r => some r
  | _ => none

/-- A1 and A4: bits 63–48 of a count and 63–32 of a word are dropped. -/
theorem test_wrmsr_drops :
    (core0Of (execWrmsr (with0 (regs 0xC0010004 0xFFFFFFFF 0xFFFFFC18 0 false)))).map (·.counter0.ctr) = some 0xFFFFFFFFFC18 ∧
    (core0Of (execWrmsr (with0 (regs 0xC0010001 0xDEADBEEF 0x004300C0 0 false)))).map (·.counter1.sel) = some 0x004300C0 := by
  decide

/-- A16 to A19: `#GP(0)` at CPL 3 and 1; refused for another MSR. -/
theorem test_wrmsr_stops :
    faultOf (execWrmsr (with0 (regs 0xC0010000 0 0 3 false))) = some (.generalProtection .core0 0 0xFFF0) ∧
    faultOf (execWrmsr (with0 (regs 0xC0010000 0 0 1 false))) = some (.generalProtection .core0 0 0xFFF0) ∧
    refusalOf (execWrmsr (with0 (regs 0x10 0 0 0 false))) = some (.msrOutsidePmu .core0 0x10) ∧
    refusalOf (execRdmsr (with0 (regs 0xC0010008 0 0 0 false))) = some (.msrOutsidePmu .core0 0xC0010008) := by
  decide

/-- Core 0 with this count in counter 0 and this word in counter 3. -/
def holding (x : Core) : Core :=
  { x with counter0 := { Counter.reset with ctr := 0xFFFFFFFFFC18 }, counter3 := { Counter.reset with sel := 0xFFFFFFFF } }

/-- A2, A7: RDMSR reads a count and a word, zero above them, and the pc goes on by 2. -/
theorem test_rdmsr_reads :
    (core0Of (execRdmsr (with0 (holding (regs 0xC0010004 0 0 0 false))))).map (fun x => (x.edx, x.eax, x.pc)) =
      some (0x0000FFFF, 0xFFFFFC18, 0xFFF2) ∧
    (core0Of (execRdmsr (with0 (holding (regs 0xC0010003 5 0 0 false))))).map (fun x => (x.edx, x.eax)) =
      some (0, 0xFFFFFFFF) := by decide

/-- A3 at CPL 3 with PCE = 1; A10, A12 to A14: the `#GP` cases. -/
theorem test_rdpmc :
    (core0Of (execRdpmc (with0 (holding (regs 0 0 0 3 true))))).map (fun x => (x.edx, x.eax)) =
      some (0x0000FFFF, 0xFFFFFC18) ∧
    faultOf (execRdpmc (with0 (regs 2 0 0 3 false))) = some (.generalProtection .core0 0 0xFFF0) ∧
    faultOf (execRdpmc (with0 (regs 4 0 0 0 false))) = some (.generalProtection .core0 0 0xFFF0) ∧
    faultOf (execRdpmc (with0 (regs 0x80000000 0 0 0 false))) = some (.generalProtection .core0 0 0xFFF0) ∧
    faultOf (execRdpmc (with0 (regs 0xC0010004 0 0 0 false))) = some (.generalProtection .core0 0 0xFFF0) := by decide

/-! ### The counter logic (spec/95_test_vectors.md 2.3 to 2.5) -/

/-- One specified step of a counter at tick 7: count, Prev, request made, pin. -/
def tick1 (ctr : Count48) (sel : SelWord) (prev pin : Bool) (cpl : BitVec 2) (n : Occ) : Count48 × Bool × Bool × Bool :=
  let k := (Counter.mk sel ctr prev pin []).ticked .specified (ctlOf sel) cpl n 7 0
  (k.ctr, k.prev, k.irqs == [7], k.pin)

/-- B1 to B11: the privilege filter. -/
theorem test_privilege_filter :
    tick1 0 0x004300C0 false false 3 3 = (3, true, false, true) ∧
    tick1 0 0x004300C0 false false 0 2 = (2, true, false, true) ∧
    tick1 0 0x004300C0 true false 0 0 = (0, false, false, false) ∧
    tick1 0x10 0x004100C0 false false 0 2 = (0x10, true, false, false) ∧
    tick1 0x10 0x004100C0 false false 3 2 = (0x12, true, false, true) ∧
    tick1 0x10 0x004100C0 false false 1 2 = (0x12, true, false, true) ∧
    tick1 0x10 0x004200C0 false false 3 2 = (0x10, true, false, false) ∧
    tick1 0x10 0x004200C0 false false 0 2 = (0x12, true, false, true) ∧
    tick1 0x10 0x004000C0 false false 0 3 = (0x10, true, false, false) ∧
    tick1 0x10 0x000300C0 false false 0 2 = (0x10, true, false, false) := by decide

/-- C1 to C16: overflow, interrupt and pin. -/
theorem test_overflow :
    tick1 0xFFFFFFFFFFFF 0x005300C0 false false 0 1 = (0, true, true, true) ∧
    tick1 0xFFFFFFFFFFFF 0x005300C0 false false 0 3 = (2, true, true, true) ∧
    tick1 0xFFFFFFFFFFFE 0x005300C0 false false 0 3 = (1, true, true, true) ∧
    tick1 0xFFFFFFFFFFFC 0x005300C0 false false 0 3 = (0xFFFFFFFFFFFF, true, false, true) ∧
    tick1 0xFFFFFFFFFFFF 0x005300C0 true false 0 0 = (0xFFFFFFFFFFFF, false, false, false) ∧
    tick1 0 0x005300C0 false false 0 0 = (0, false, false, false) := by decide

theorem test_overflow_pin_and_filter :
    tick1 0xFFFFFFFFFFFF 0x004300C0 false false 0 1 = (0, true, false, true) ∧
    tick1 0xFFFFFFFFFFFF 0x004B00C0 false true 0 1 = (0, true, false, false) ∧
    tick1 5 0x004B00C0 false true 0 2 = (7, true, false, true) ∧
    tick1 0xFFFFFFFFFFFF 0x005200C0 false false 3 1 = (0xFFFFFFFFFFFF, true, false, false) ∧
    tick1 0xFFFFFFFFFFFF 0x001300C0 false false 0 1 = (0xFFFFFFFFFFFF, true, false, false) ∧
    tick1 0xFFFFFFFFFFFF 0x005700CD false false 0 1 = (0, true, true, true) ∧
    tick1 0xFFFFFFFFFFFF 0x005700CD true false 0 1 = (0xFFFFFFFFFFFF, true, false, false) := by decide

/-- 2.4: counter mask and invert, every row. -/
theorem test_counter_mask :
    (List.map (fun w => (List.map (fun n => (tick1 0x10 w false false 0 n).1) [0, 1, 2, 3]))
      [0x004300C0, 0x00C300C0, 0x014300C0, 0x024300C0, 0x034300C0, 0x01C300C0, 0x02C300C0, 0x03C300C0]) =
    [[0x10, 0x11, 0x12, 0x13], [0x10, 0x11, 0x12, 0x13], [0x10, 0x11, 0x11, 0x11], [0x10, 0x10, 0x11, 0x11],
     [0x10, 0x10, 0x10, 0x11], [0x11, 0x10, 0x10, 0x10], [0x11, 0x11, 0x10, 0x10], [0x11, 0x11, 0x11, 0x10]] := by
  decide

/-- The limits of the oracle value (R9, R133, R208): nothing selected, a condition, event 24h by sub-event. -/
theorem test_event_count :
    eventCount (part .E) evt42 0 3 = 0 ∧ eventCount (part .E) evt01 0xFF 3 = 1 ∧ eventCount (part .E) evtC0 0 3 = 3 ∧
    eventCount (part .E) evt24 0x01 3 = 3 ∧ eventCount (part .E) evt24 0x02 3 = 1 ∧ eventCount (part .E) evt24 0x03 3 = 3 := by decide

set_option maxRecDepth 4000 in
/-- 135 of the 256 masks of event E9h satisfy its validity rule (spec/95_test_vectors.md 1.11). -/
theorem test_e9_masks : ((List.range 256).filter (fun u => e9MaskValid (BitVec.ofNat 8 u))).length = 135 := by decide

/-- spec/95_test_vectors.md 2.8: the dual-core Northbridge table, rows 1, 2 and 4. -/
def dual (w0 w1 v0 v1 : SelWord) : State :=
  { State.reset with
    part := { part .E with numCores := .two }
    core0 := { Core.reset with counter0 := { Counter.reset with sel := w0 }, counter1 := { Counter.reset with sel := w1 } }
    core1 := { Core.reset with counter0 := { Counter.reset with sel := v0 }, counter1 := { Counter.reset with sel := v1 } } }

theorem test_northbridge :
    modeAt (dual 0x004307E0 0 0x004300C0 0) .core0 .ctr0 = .specified ∧
    modeAt (dual 0x004307E0 0 0x004300C0 0) .core1 .ctr0 = .free ∧
    modeAt (dual 0x004307E0 0 0x004300C0 0x004300C0) .core1 .ctr1 = .specified ∧
    modeAt (dual 0x000307E0 0 0x004300C0 0) .core1 .ctr0 = .free ∧
    modeAt (dual 0x004307E0 0x004300C0 0 0x00430FF6) .core0 .ctr0 = .free ∧
    modeAt (dual 0x004307E0 0x004300C0 0 0x00430FF6) .core1 .ctr1 = .free ∧
    modeAt (dual 0x004307E0 0x004300C0 0 0x00430FF6) .core0 .ctr1 = .free ∧
    modeAt (dual 0x004307E0 0x004300C0 0x004300C0 0x00430FF6) .core1 .ctr0 = .free := by decide

/-- The rows of spec/95_test_vectors.md 2.7 that are reserved, and the one that is disabled. -/
theorem test_reserved_modes :
    [0x00430003, 0x044300C0, 0x006300C0, 0x00434000, 0x00030003, 0x004308E9, 0x00430042].map
      (fun w => modeAt (with0 { Core.reset with counter0 := { Counter.reset with sel := w } }) .core0 .ctr0) =
    [.free, .free, .free, .free, .freePrev, .specified, .specified] := by decide

/-- R7 `EventSet`, D32: with another event set a listed number is reserved (C0h left out, and bit 01h left out of event
65h's table), and one that is not listed counts (03h, with one UNIT_MASK bit). -/
def withSet (w : SelWord) : State :=
  { with0 { Core.reset with counter0 := { Counter.reset with sel := w } } with
    part := { part .E with eventSet := [⟨0x65, .preD, [(0x02, .preD), (0x80, .preD)]⟩, ⟨0x03, .D, [(0x04, .E)]⟩] } }

theorem test_event_set :
    [0x004300C0, 0x00430165, 0x00430265, 0x00430403, 0x00430103, 0x00030103].map
      (fun w => modeAt (withSet w) .core0 .ctr0) = [.free, .free, .specified, .specified, .free, .freePrev] := by decide

/-- The default event set: 87 events, one for each number. -/
theorem test_default_event_set :
    specEventSet.length = 87 ∧ (specEventSet.map (·.select)).Nodup ∧
    findEvent specEventSet 0x65 = some ⟨0x65, .preD, [(0x01, .preD), (0x02, .preD), (0x80, .preD)]⟩ := by decide

/-! ### Arithmetic on counts (spec/95_test_vectors.md 1.1, 1.4 to 1.14) -/

theorem test_preload : preload 1 = 0xFFFFFFFFFFFF ∧ preload 1000 = 0xFFFFFFFFFC18 ∧ preload (2 ^ 47) = 0x800000000000 := by
  decide

theorem test_turnarounds :
    dimmTurnaround { part .E with dramChannels := .dual } = 64 ∧ readToWriteTurnaround { part .E with dramChannels := .dual } = 32 ∧
    writeToReadTurnaround (part .E) 3 = 32 := by
  refine ⟨?_, ?_, ?_⟩ <;> norm_num [dimmTurnaround, readToWriteTurnaround, writeToReadTurnaround, DramChannels.width, part]

/-- The figures of spec/95_test_vectors.md 1.7, 1.13 and 1.14. -/
theorem test_ratios :
    averageLength 5 2 = 5 / 2 ∧ gartMissRatio 50 1000 = 1 / 20 ∧ linkUtilization 300 700 = 3 / 10 := by
  norm_num [averageLength, gartMissRatio, linkUtilization, ratio]

/-- R264: of four stretches with interrupts masked, one with an interrupt pending delays a quarter. -/
theorem test_delayed_proportion : delayedInterruptProportion 1 4 = 1 / 4 := by
  norm_num [delayedInterruptProportion, ratio]

/-- The figures of spec/95_test_vectors.md 1.4 and 1.12. -/
theorem test_bytes :
    prefetchedBytes 1000 250 = 48000 ∧ bandwidth (dirtyProbeBytes 1000000) 1 = 64000000 := by
  norm_num [prefetchedBytes, prefetchedLines, bandwidth, dirtyProbeBytes, lineBytes, ratio]

/-! ### The host's two functions -/

/-- The next step runs an instruction placed by `withFetchWord`, from reset: RDPMC of counter 0 loads 0 and goes on. -/
theorem test_step_runs_rdpmc :
    (core0Of (step (State.reset.withFetchWord 16 0x0F33))).map (fun x => (x.edx, x.eax, x.pc)) = some (0, 0, 0xFFF2) := by
  decide

/-- The next step runs a PERFEVTSEL word placed by `withFetchWord`: one tick of core 0 passes. -/
theorem test_step_runs_event :
    (core0Of (step (State.reset.withFetchWord 8 0xE9))).map (fun x => (x.clock, x.counter0.sel)) = some (1, 0xE9) := by
  decide

/-! ### Witnesses: for each statement with hypotheses, a state and operands that meet all of them together, each clause
at a boundary of its range -/

open Sys2Proof.Claims

/-- The state `with0 x` with core 0's instruction stream next and these bytes at its program counter. -/
def fetching (x : Core) (bs : List Byte) : State := (with0 x).place (.bytes bs)

/-- The state `with0 x` with a tick of core 0 next. -/
def ticking (x : Core) : State := { with0 x with agenda := [.tick .core0] }

/-- Core 0 with this word in counter 0. -/
def selecting (w : SelWord) : Core := { Core.reset with counter0 := { Counter.reset with sel := w } }

/-- WrmsrMeaning, RdmsrMeaning: the first and the last number of each register kind, CPL 0 and 3, and the numbers next to
the eight. -/
theorem witness_msr_clauses :
    ((with0 (regs 0xC0010000 0 0 0 false)).cur.cpl = 0 ∧ (with0 (regs 0xC0010000 0 0 0 false)).cur.ecx = evtSelMsr .ctr0) ∧
    (with0 (regs 0xC0010003 0 0 0 false)).cur.ecx = evtSelMsr .ctr3 ∧
    (with0 (regs 0xC0010004 0 0 0 false)).cur.ecx = ctrMsr .ctr0 ∧
    ((with0 (regs 0xC0010007 0 0 0 false)).cur.cpl = 0 ∧ (with0 (regs 0xC0010007 0 0 0 false)).cur.ecx = ctrMsr .ctr3) ∧
    (with0 (regs 0xC0010000 0 0 3 false)).cur.cpl ≠ 0 := by decide

theorem witness_msr_refused :
    ((with0 (regs 0xC001FFFF 0 0 0 false)).cur.cpl = 0 ∧
      ∀ i, (with0 (regs 0xC001FFFF 0 0 0 false)).cur.ecx ≠ evtSelMsr i ∧ (with0 (regs 0xC001FFFF 0 0 0 false)).cur.ecx ≠ ctrMsr i) ∧
    ((with0 (regs 0xC0010008 0 0 0 false)).cur.cpl = 0 ∧
      ∀ i, (with0 (regs 0xC0010008 0 0 0 false)).cur.ecx ≠ evtSelMsr i ∧ (with0 (regs 0xC0010008 0 0 0 false)).cur.ecx ≠ ctrMsr i) := by
  refine ⟨⟨by decide, fun i => ?_⟩, by decide, fun i => ?_⟩ <;> cases i <;> decide

/-- RdpmcMeaning: index 0 at CPL 3 with PCE, index 3 at CPL 0, index 4, and CPL 1 without PCE. -/
theorem witness_rdpmc_clauses :
    ((with0 (regs 0 0 0 3 true)).cur.pce = true ∧ (with0 (regs 0 0 0 3 true)).cur.ecx = ctrIndex .ctr0) ∧
    ((with0 (regs 3 0 0 0 false)).cur.cpl = 0 ∧ (with0 (regs 3 0 0 0 false)).cur.ecx = ctrIndex .ctr3) ∧
    (with0 (regs 4 0 0 0 false)).cur.ecx.toNat > 3 ∧
    ((with0 (regs 0 0 0 1 false)).cur.cpl ≠ 0 ∧ (with0 (regs 0 0 0 1 false)).cur.pce = false) := by decide

/-- RdpmcAgreesWithRdmsr: CPL 0, and a level other than 0. -/
theorem witness_agreement : (with0 (regs 0 0 0 0 false)).cur.cpl = 0 ∧ (1 : BitVec 2) ≠ 0 := by decide

/-- RdmsrAfterWrmsrReadsWrite, WriteGovernsNextTick: a WRMSR that completes, of either kind of register. -/
theorem witness_wrmsr_completes :
    (∃ t, exec .wrmsr (with0 (regs 0xC0010000 0xFFFFFFFF 0x004300C0 0 false)) = .next t ∧
      modeAt t .core0 .ctr0 = .specified) ∧
    (with0 (regs 0xC0010000 0xFFFFFFFF 0x004300C0 0 false)).cur.ecx = evtSelMsr .ctr0 ∧
    (∃ t, exec .wrmsr (with0 (regs 0xC0010007 0xFFFFFFFF 0 0 false)) = .next t) ∧
    (with0 (regs 0xC0010007 0xFFFFFFFF 0 0 false)).cur.ecx = ctrMsr .ctr3 ∧
    (∃ t, exec .wrmsr (with0 (regs 0xC0010000 0 0x000300C0 0 false)) = .next t) ∧
    (with0 (regs 0xC0010000 0 0x000300C0 0 false)).cur.eax.getLsbD 22 = false := by
  refine ⟨⟨_, rfl, by decide⟩, by decide, ⟨_, rfl⟩, by decide, ⟨_, rfl⟩, by decide⟩

/-- No bit of `um` outside `b`: no UNIT_MASK bit is set that a table of the bits `b` does not have. -/
theorem mask_within (um b : BitVec 8) (h : um &&& ~~~b = 0) : ¬ ∃ j, um.getLsbD j = true ∧ b.getLsbD j = false := by
  rintro ⟨j, h1, h2⟩
  have hj := BitVec.lt_of_getLsbD h1
  have e := congrArg (·.getLsbD j) h
  simp only [BitVec.getLsbD_and, BitVec.getLsbD_not, h1, h2, hj] at e
  simp at e

/-- The event statements (`Runs`), conforming: UNIT_MASK 00h is conforming for every event of the default set on revision E,
without conflict on a single-core part. -/
theorem witness_runs_conforming :
    (∀ e ∈ specEventSet, ¬ ReservedOn (part .E) e.select (counted 0)) ∧
    ∀ es, ¬ ((counted 0).en = true ∧ Conflict (with0 Core.reset) es) := by
  have found : ∀ e ∈ specEventSet, (specEventSet.find? (fun x => x.select == e.select)).any (fun x => x == e) = true := by
    decide
  refine ⟨?_, fun es h => by have := h.2.1; revert this; decide⟩
  rintro e he (h | h | h)
  · revert h; decide
  · revert h; decide
  · have hf := found e he
    rw [Option.any_eq_true] at hf
    obtain ⟨x, hx, -⟩ := hf
    rw [show (part .E).eventSet = specEventSet from rfl, hx] at h
    rcases h with h | ⟨-, j, h, -⟩
    · revert h; show ¬ rank .E < rank _; cases x.minRev <;> decide
    · simp [counted] at h

/-- At the boundaries of a table and of a revision: the whole mask of event 00h conforms before revision D, the next bit
does not; event E5h's mask 04h is reserved before revision D; event E9h before revision E; C0h where the part's set leaves
it out. -/
theorem witness_runs_boundaries :
    ¬ ReservedOn (part .preD) 0x00 (counted 0x3F) ∧ ReservedOn (part .preD) 0x00 (counted 0x40) ∧
    ReservedOn (part .preD) 0xE5 (counted 0x04) ∧ ¬ ReservedOn (part .D) 0xE5 (counted 0x04) ∧
    ReservedOn (part .D) 0xE9 (counted 0xA8) ∧ ReservedOn (withSet 0).part 0xC0 (counted 0) := by
  refine ⟨?_, .inr (.inr (.inr ⟨by decide, 6, by decide, by decide⟩)),
    .inr (.inr (.inr ⟨by decide, 2, by decide, by decide⟩)), ?_, .inr (.inr (.inl (by decide))), .inr (.inr trivial)⟩
  · rintro (h | h | h | ⟨-, j, h, hu⟩)
    · revert h; decide
    · revert h; decide
    · revert h; decide
    · refine mask_within 0x3F 0x3F (by decide) ⟨j, h, ?_⟩
      have hj := BitVec.lt_of_getLsbD h
      revert h hu; interval_cases j <;> decide
  · rintro (h | h | h | ⟨-, j, h, hu⟩)
    · revert h; decide
    · revert h; decide
    · revert h; decide
    · refine mask_within 0x04 0x3C (by decide) ⟨j, h, ?_⟩
      have hj := BitVec.lt_of_getLsbD h
      revert h hu; interval_cases j <;> decide

/-- Reserved while enabled (CNT_MASK 4) and while disabled (bit 21), for every event on every part; and a conflict. -/
theorem witness_runs_free (p : Part) (es : BitVec 8) :
    ({ counted 0 with cntMask := 4 }.en = true ∧ ReservedOn p es { counted 0 with cntMask := 4 }) ∧
    ({ counted 0 with sbz := true, en := false }.en = false ∧ ReservedOn p es { counted 0 with sbz := true, en := false }) ∧
    Conflict (dual 0x004300C0 0 0x004307E0 0) es := by
  refine ⟨⟨rfl, .inl (by decide)⟩, ⟨rfl, .inr (.inl rfl)⟩, ⟨rfl, .inl ?_⟩⟩
  show 0xE0 ≤ _
  decide

/-- UnlistedEventSelects: words at both ends of the list, on the default set (enabled and disabled) and on a set that
defines 03h. -/
theorem witness_unlisted :
    SelectsReserved 0x00430003 ∧ SelectsReserved 0x000300FF ∧ ¬ SelectsReserved 0x004300F8 ∧
    (∀ e ∈ (with0 (selecting 0x00430003)).part.eventSet,
      e.select.toNat ≠ (((with0 (selecting 0x00430003)).core .core0).counter .ctr0).sel.toNat % 256) ∧
    (0x00430003 : SelWord).getLsbD 22 = true ∧ (0x000300FF : SelWord).getLsbD 22 = false ∧
    modeAt (withSet 0x00430403) .core0 .ctr0 = .specified := by
  refine ⟨⟨(0x03, 0x1F), by decide, by decide⟩, ⟨(0xF9, 0xFF), by decide, by decide⟩, ?_, by decide, by decide, by decide, by decide⟩
  unfold SelectsReserved
  decide

/-- LevelIncrementTable: each row's premises, the first and the last reserved CNT_MASK among them. -/
theorem witness_level_rows :
    { counted 0 with cntMask := 3 }.inv = false ∧ { counted 0 with cntMask := 1, inv := true }.inv = true ∧
    (counted 0).cntMask.toNat = 0 ∧ (4 : BitVec 8).toNat > 3 ∧ (0xFF : BitVec 8).toNat > 3 := by decide

/-- EdgeModeCountsRisingEdges, ProtocolAvoidsFalseEdge: an enabled counter in edge mode whose old event was a static 0,
counts at which the condition holds, and a level that the filter lets through and one it does not. -/
theorem witness_edge :
    { counted 0 with e := true }.en = true ∧ { counted 0 with e := true }.e = true ∧
    condition { counted 0 with e := true } 1 = true ∧ condition { counted 0 with e := true } 3 = true ∧
    Counter.reset.prev = false := by decide
theorem witness_passes : Passes (counted 0) 0 ∧ Passes (counted 0) 3 ∧ ¬ Passes { counted 0 with usr := false } 3 := by
  unfold Passes; decide

/-- spec/95_test_vectors.md P5: seven ticks at levels 3 and 0 of event 01h inverted, user mode only, count 3. -/
theorem test_levels_change :
    (Claims.counted (ctlOf 0x01C10001) 1 [(3, 0), (3, 1), (0, 0), (3, 0), (0, 1), (3, 1), (3, 0)]
      { Counter.reset with sel := 0x01C10001 }).ctr = 3 := by decide

/-- DifferenceCountsIncrements: no tick at all, and two at different levels. -/
theorem witness_difference :
    incrementSum (counted 0) false [] < 2 ^ 48 ∧ incrementSum (counted 0) false [(0, 3), (3, 2)] < 2 ^ 48 := by decide

/-- PreloadOverflowsAtNthIncrement: `N = 1` and its first tick, `N = 2` and one tick. -/
theorem witness_preload :
    (1 ≤ 1 ∧ 1 ≤ 2 ^ 48) ∧ { counted 0 with int := true }.en = true ∧ { counted 0 with int := true }.e = false ∧
    { counted 0 with int := true }.int = true ∧ { counted 0 with int := true }.cntMask = 0 ∧
    { Counter.reset with ctr := preload 1 }.ctr = preload 1 ∧ { Counter.reset with ctr := preload 1 }.irqs = [] ∧
    (∀ n ∈ ([(0, 1)] : List (BitVec 2 × Occ)), ((n.1 = 0 ∧ (counted 0).os = true) ∨ (n.1 ≠ 0 ∧ (counted 0).usr = true)) ∧ n.2 = 1) ∧
    ([(0, 1)] : List (BitVec 2 × Occ)).length = 1 ∧ ([(0, 1)] : List (BitVec 2 × Occ)).length < 2 ∧
    { Counter.reset with ctr := preload 2 }.ctr = preload 2 := by decide

/-- TickStepsEveryCounterOnce, OverflowRequestsInterrupt, SameWordCountsAlike, UnspecifiedCounterIsConfined,
DisabledCounterHolds: a specified, a free and a held counter, two with one word, and a tick. -/
theorem witness_tick_modes :
    modeAt (with0 (selecting 0x005300C0)) .core0 .ctr0 = .specified ∧
    modeAt (with0 (selecting 0x00530003)) .core0 .ctr0 = .free ∧
    modeAt (with0 (selecting 0x00130003)) .core0 .ctr0 = .freePrev ∧
    ((with0 (selecting 0x00130003)).core .core0).counter .ctr0 ≠ ((with0 (selecting 0x00130003)).core .core0).counter .ctr1 ∧
    ((with0 (selecting 0x005300C0)).core .core0).counter .ctr1 = ((with0 (selecting 0x005300C0)).core .core0).counter .ctr2 ∧
    modeAt (with0 (selecting 0x005300C0)) .core0 .ctr1 = .specified ∧
    modeAt (with0 (selecting 0x005300C0)) .core0 .ctr2 = .specified ∧
    (((with0 (selecting 0x001300C0)).core .core0).counter .ctr0).sel.getLsbD 22 = false := by decide

/-- OverflowRequestsInterrupt: an overflow with INT, in the next value of a counter one below `2^48` (C1). -/
theorem witness_overflow :
    (let k := (⟨0x005300C0, 0xFFFFFFFFFFFF, false, false, []⟩ : Counter)
     (k.ticked .specified (ctlOf k.sel) 0 1 0 0).ctr.toNat < k.ctr.toNat ∧ k.sel.getLsbD 20 = true) ∧
    (let k := (⟨0x004300C0, 0, false, false, []⟩ : Counter)
     k.ctr.toNat ≤ (k.ticked .specified (ctlOf k.sel) 0 0 0 0).ctr.toNat ∧ k.sel.getLsbD 20 = false) := by decide

/-- A word that counts every tick whatever the oracle gives: event 42h with no sub-event selected (R133), CNT_MASK 1 and INV
(R136). PmuRegisterWriters, OverflowRequestsInterrupt: a tick that changes a count, and one that overflows with INT. -/
theorem witness_tick_counts :
    (core0Of (step (ticking (selecting 0x01C30042)))).map (fun x => (x.counter0.ctr, x.counter0.prev, x.counter0.pin)) =
      some (1, true, true) ∧
    (core0Of (step (ticking { selecting 0 with counter0 := ⟨0x01D30042, 0xFFFFFFFFFFFF, false, false, []⟩ }))).map
      (fun x => (x.counter0.ctr, x.counter0.irqs)) = some (0, [0]) := by decide

theorem witness_tick_goes_on : ∃ t, tick .core0 (with0 (selecting 0x00530003)) = .next t := ⟨_, rfl⟩

/-- SameWordCountsAlike: two counters with one word, count and sample, whose pins and requests differ. -/
theorem witness_same_word :
    let s := with0 { Core.reset with
      counter0 := ⟨0x005300C0, 7, false, true, [0]⟩, counter1 := ⟨0x005300C0, 7, false, false, []⟩ }
    modeAt s .core0 .ctr0 = .specified ∧ modeAt s .core0 .ctr1 = .specified ∧
    ((s.core .core0).counter .ctr0).sel = ((s.core .core0).counter .ctr1).sel ∧
    ((s.core .core0).counter .ctr0).ctr = ((s.core .core0).counter .ctr1).ctr ∧
    ((s.core .core0).counter .ctr0).prev = ((s.core .core0).counter .ctr1).prev := by decide

/-- StepRunsDecodedInstruction, WrmsrWaitsForTick: each access instruction fetched by a core that can run. -/
theorem witness_fetches :
    ((nextTurn (fetching (regs 0xC0010004 0 0 0 false) [0x0F, 0x30])).1 = .instr .core0 ∧
      canRun (fetching (regs 0xC0010004 0 0 0 false) [0x0F, 0x30]) .core0 = true ∧
      decodeStream ((fetching (regs 0xC0010004 0 0 0 false) [0x0F, 0x30]).window .core0) = .ok (.access .wrmsr) ∧
      ((fetching (regs 0xC0010004 0 0 0 false) [0x0F, 0x30]).core .core0).wrmsrSinceTick = false) ∧
    decodeStream ((fetching (regs 0xC0010004 0 0 0 false) [0x0F, 0x32]).window .core0) = .ok (.access .rdmsr) ∧
    decodeStream ((fetching (regs 0 0 0 0 false) [0x0F, 0x33]).window .core0) = .ok (.access .rdpmc) ∧
    faultOf (exec .rdpmc ((fetching (regs 4 0 0 0 false) [0x0F, 0x33]).actFor .core0)) =
      some (.generalProtection .core0 0 0xFFF0) ∧
    refusalOf (exec .rdmsr ((fetching (regs 0x10 0 0 0 false) [0x0F, 0x32]).actFor .core0)) =
      some (.msrOutsidePmu .core0 0x10) := by decide

/-- FaultingAccessChangesNothing: WRMSR and RDMSR at CPL 1, RDPMC at CPL 3 without PCE and of index 4. -/
theorem witness_raises :
    RaisesGP (regs 0xC0010000 0 0 1 false) .wrmsr ∧ RaisesGP (regs 0xC0010000 0 0 1 false) .rdmsr ∧
    RaisesGP (regs 0 0 0 3 false) .rdpmc ∧ RaisesGP (regs 4 0 0 0 false) .rdpmc ∧
    canRun (fetching (regs 4 0 0 0 false) [0x0F, 0x33]) .core0 = true ∧
    decodeStream ((fetching (regs 4 0 0 0 false) [0x0F, 0x33]).window .core0) = .ok (.access .rdpmc) := by
  refine ⟨?_, ?_, .inl ?_, .inr ?_, ?_, ?_⟩ <;> first | (show (_ : BitVec 2) ≠ 0; decide) | decide

/-- WrmsrWaitsForTick: a WRMSR that has its turn with no tick since the last one, and the tick that ends the wait. -/
def waiting : State :=
  let s := fetching (regs 0xC0010004 0 0 0 false) [0x0F, 0x30]
  { s with core0 := { s.core0 with wrmsrSinceTick := true } }
theorem witness_waits :
    (nextTurn waiting).1 = .instr .core0 ∧ decodeStream (waiting.window .core0) = .ok (.access .wrmsr) ∧
    (waiting.core .core0).wrmsrSinceTick = true ∧
    (core0Of (step { waiting with agenda := [.tick .core0] })).map (·.wrmsrSinceTick) = some false := by decide

/-- TickRunsDecodedWords: a core that can tick, whose four words decode. -/
theorem witness_tick_words :
    (nextTurn (ticking (selecting 0x005300C0))).1 = .tick .core0 ∧ canTick (ticking (selecting 0x005300C0)) .core0 = true ∧
    ∀ i, decodeSel (((ticking (selecting 0x005300C0)).core .core0).counter i).sel =
      .ok (if i = .ctr0 then .evtC0 { counted 0 with int := true } else .evt00 (ctlOf 0)) := by
  refine ⟨rfl, by decide, fun i => ?_⟩
  cases i <;> decide

/-- StepRunsMov: `mov ecx, C001_0000h` (spec/95_test_vectors.md P1). -/
theorem witness_mov :
    (nextTurn (fetching Core.reset [0xB9, 0x00, 0x00, 0x01, 0xC0])).1 = .instr .core0 ∧
    canRun (fetching Core.reset [0xB9, 0x00, 0x00, 0x01, 0xC0]) .core0 = true ∧
    (fetching Core.reset [0xB9, 0x00, 0x00, 0x01, 0xC0]).window .core0 = [movOpcode .ecx, 0x00, 0x00, 0x01, 0xC0] := by
  decide

/-- PmuRegisterWriters: a step that changes an event-select word, a step that changes a count by WRMSR; and in the pure
step of a counter, a tick that changes a count. -/
theorem witness_writers :
    (core0Of (step (fetching (regs 0xC0010000 0 0x004300C0 0 false) [0x0F, 0x30]))).map (·.counter0.sel) = some 0x004300C0 ∧
    (core0Of (step (fetching (regs 0xC0010004 0 7 0 false) [0x0F, 0x30]))).map (·.counter0.ctr) = some 7 ∧
    (tick1 0x10 0x004300C0 false false 0 1).1 = 0x11 := by decide

/-- OnlyTicksMovePrevPinAndRequests, OtherCoreUntouched, UserModeCannotWritePmu, StepKeepsMemoryCanonical,
StepKeepsRequestsOrdered, AbsentCoreNeverMoves: a step of core 0's instruction stream at CPL 3 on a single-core part that
goes on, from a canonical memory. -/
theorem witness_user_step :
    (nextTurn (fetching (regs 0 0 0 3 true) [0x0F, 0x33])).1 = .instr .core0 ∧
    ((fetching (regs 0 0 0 3 true) [0x0F, 0x33]).core .core0).cpl ≠ 0 ∧
    memWf (fetching (regs 0 0 0 3 true) [0x0F, 0x33]).mem = true ∧
    (fetching (regs 0 0 0 3 true) [0x0F, 0x33]).part.numCores = .one ∧
    (core0Of (step (fetching (regs 0 0 0 3 true) [0x0F, 0x33]))).map (·.pc) = some 0xFFF2 := by decide

theorem witness_requests_ordered : RequestsOrdered (fetching (regs 0 0 0 3 true) [0x0F, 0x33]) := by
  intro c i
  cases c <;> cases i <;> exact ⟨List.Pairwise.nil, fun _ h => absurd h List.not_mem_nil⟩

/-- HaltedCoreKeepsPmu: a tick's turn on a halted core; the step goes on. -/
theorem witness_halted :
    (core0Of (step (ticking { selecting 0x005300C0 with halted := true }))).map (fun x => (x.halted, x.clock)) = some (true, 0) := by
  decide

/-- EncodeDecodeWord, EncodeDecodeBytes, FieldsAreSlicesOfWord: a word with bits 63–32 set that decodes, and bytes that
do. -/
theorem witness_decodes :
    decode (.evtsel 0xDEADBEEF004300C0) = .ok (.evtC0 (counted 0)) ∧ decode (.bytes [0x0F, 0x30]) = .ok .wrmsr ∧
    decodeSel 0x004300C0 = .ok (.evtC0 (counted 0)) ∧ eventOf (.evtC0 (counted 0)) = some (evtC0, counted 0) := by decide

/-- ReservedEventSelectsRejected: the ends of the first and the last range, and the listed values next to them. -/
theorem witness_reserved_selects :
    decodeSel 0x03 = .error (.reservedEvent 0x03) ∧ decodeSel 0x1F = .error (.reservedEvent 0x1F) ∧
    decodeSel 0xF9 = .error (.reservedEvent 0xF9) ∧ decodeSel 0xFF = .error (.reservedEvent 0xFF) ∧
    decodeSel 0x02 = .ok (.evt02 (ctlOf 0x02)) ∧ decodeSel 0x20 = .ok (.evt20 (ctlOf 0x20)) ∧
    decodeSel 0xF8 = .ok (.evtF8 (ctlOf 0xF8)) := by decide

/-- WellFormedWordsAreSpecified: a word that decodes, on a single-core part. -/
theorem witness_wellFormed_word :
    decodeSel (((with0 (selecting 0x004300C0)).core .core0).counter .ctr0).sel = .ok (.evtC0 (counted 0)) ∧
    (with0 (selecting 0x004300C0)).part.numCores = .one := by decide

end Sys2Proof.Tests
end

/-! What one step of the machine keeps: the parameters, absent cores, and the wait between two WRMSR steps. -/

namespace Sys2Proof.Machine

/-! ### The turn that is next -/

/-- Whether a core exists depends on the part alone (R326). -/
theorem hasCore_congr {s t : State} (hp : t.part = s.part) (c : CoreId) : t.hasCore c = s.hasCore c := by
  cases c <;> simp [State.hasCore, hp]

@[simp] theorem canRun_nextTurn (s : State) (c : CoreId) : canRun (nextTurn s).2 c = canRun s c := by
  obtain ⟨hp, hc, -⟩ := nextTurn_spec s
  simp only [canRun, hasCore_congr hp, hc]

/-- Taking a turn leaves what a core would fetch. -/
theorem fetches_nextTurn {s : State} {c : CoreId} {i : Instr} : fetches (nextTurn s).2 c i ↔ fetches s c i := by
  obtain ⟨-, hc, hm⟩ := nextTurn_spec s
  simp only [fetches, State.window, hc, hm]

/-- With the turn of `c`'s instruction stream next, a step is that stream's step if the core can run. -/
theorem step_instr_of_canRun {s : State} {c : CoreId} (ht : (nextTurn s).1 = .instr c) (hr : canRun s c = true) :
    step s = runInstr c (nextTurn s).2 := by
  simp [step, ht, runTurn, hr]

/-- A core that cannot run leaves its instruction stream's turn unused. -/
theorem step_instr_of_not_canRun {s : State} {c : CoreId} (ht : (nextTurn s).1 = .instr c) (hr : canRun s c = false) :
    step s = .next (nextTurn s).2 := by
  simp [step, ht, runTurn, hr]

/-! ### One access instruction of the stream -/

theorem mustWait_iff {s : State} {c : CoreId} {i : Instr} :
    mustWait s c i = true ↔ i = .wrmsr ∧ (s.core c).wrmsrSinceTick = true := by
  simp [mustWait]

/-- A fetched WRMSR with no tick since the last one leaves everything as it was (R12). -/
theorem runInstr_waits {s : State} {c : CoreId} (hf : fetches s c .wrmsr) (hw : (s.core c).wrmsrSinceTick = true) :
    runInstr c s = .next s := by
  unfold fetches at hf
  simp [runInstr, hf, mustWait_iff.2 ⟨rfl, hw⟩]

/-- A fetched access instruction that need not wait is executed for its core, its `#GP` caught. -/
theorem runInstr_access {s : State} {c : CoreId} {i : Instr} (hf : fetches s c i)
    (hw : i = .wrmsr → (s.core c).wrmsrSinceTick = false) :
    runInstr c s = catchGP (s.actFor c) (exec i (s.actFor c)) := by
  unfold fetches at hf
  have hm : mustWait s c i = false := by
    rw [Bool.eq_false_iff]
    intro h
    obtain ⟨hi, ht⟩ := mustWait_iff.1 h
    simp [hw hi] at ht
  simp [runInstr, hf, hm]

/-! ### What a step of an instruction stream leaves -/

theorem instrEffect_part {c : CoreId} {s t : State} (h : InstrEffect c s t) : t.part = s.part := by
  cases h with
  | waits => rfl
  | completes i _ _ hi hx =>
    obtain ⟨hp, -⟩ := exec_access_frame hi hx
    exact hp
  | raises => simp [State.recordGP]
  | moves => simp [execMovImm]

/-- An instruction stream touches its own core only (R66). -/
theorem instrEffect_other {c c' : CoreId} {s t : State} (h : InstrEffect c s t) (hc : c' ≠ c) :
    t.core c' = s.core c' := by
  cases h with
  | waits => rfl
  | completes i _ _ hi hx =>
    obtain ⟨-, -, -, -, -, -, -, ho⟩ := exec_access_frame hi hx
    simpa using ho c' (by simpa using hc)
  | raises => simp [State.recordGP, hc]
  | moves => simp [execMovImm, hc]

/-- WRMSR marks its core, and no access instruction takes the mark away (R12). -/
theorem exec_access_wrmsrSinceTick {i : Instr} {s t : State} (hi : i = .wrmsr ∨ i = .rdmsr ∨ i = .rdpmc)
    (h : exec i s = .next t) :
    (t.core s.acting).wrmsrSinceTick = (i == .wrmsr || (s.core s.acting).wrmsrSinceTick) := by
  rcases hi with rfl | rfl | rfl
  · obtain ⟨-, r, -, rfl⟩ := execWrmsr_next h
    simp
  · obtain ⟨-, r, -, rfl⟩ := execRdmsr_next h
    simp [Core.advance, Core.loadEdxEax, State.cur]
  · obtain ⟨-, i, -, rfl⟩ := execRdpmc_next h
    simp [Core.advance, Core.loadEdxEax, State.cur]

/-- No step of an instruction stream ends the wait of a core (R12). -/
theorem instrEffect_keeps_wait {c c' : CoreId} {s t : State} (h : InstrEffect c s t)
    (hw : (s.core c').wrmsrSinceTick = true) : (t.core c').wrmsrSinceTick = true := by
  by_cases hc : c' = c
  case neg => rw [instrEffect_other h hc, hw]
  subst hc
  cases h with
  | waits => exact hw
  | completes i _ _ hi hx =>
    have := exec_access_wrmsrSinceTick hi hx
    simp_all
  | raises => simpa [State.recordGP] using hw
  | moves => simpa [execMovImm, Core.advance] using hw

/-! ### What a move of the environment leaves -/

/-- A move of the environment writes one byte of memory, or changes one existing core by an `f` that keeps its clock and
its wait for a tick. -/
theorem applyEnv_cases (m : EnvMove) (s : State) :
    (∃ a b, applyEnv m s = { s with mem := memWrite s.mem a b }) ∨
    ∃ c f, applyEnv m s = envCore s c f ∧
      ∀ x : Core, (f x).clock = x.clock ∧ (f x).wrmsrSinceTick = x.wrmsrSinceTick := by
  cases m with
  | setCpl c l => exact .inr ⟨c, fun x => { x with cpl := l }, rfl, fun _ => ⟨rfl, rfl⟩⟩
  | setHalted c h => exact .inr ⟨c, fun x => { x with halted := h }, rfl, fun _ => ⟨rfl, rfl⟩⟩
  | setPce c b => exact .inr ⟨c, fun x => { x with pce := b }, rfl, fun _ => ⟨rfl, rfl⟩⟩
  | setReg c r v => exact .inr ⟨c, _, rfl, fun x => ⟨setReg_clock x r v, setReg_wrmsrSinceTick x r v⟩⟩
  | setPc c a => exact .inr ⟨c, fun x => { x with pc := a }, rfl, fun _ => ⟨rfl, rfl⟩⟩
  | deliver c a l =>
    exact .inr ⟨c, fun x => { x with raised := none, pc := a, cpl := l }, rfl, fun _ => ⟨rfl, rfl⟩⟩
  | store a b => exact .inl ⟨_, b, rfl⟩

@[simp] theorem core_withMem (s : State) (m : List Host.Cell) (c : CoreId) :
    ({ s with mem := m } : State).core c = s.core c := by cases c <;> rfl

@[simp] theorem envCore_part (s : State) (c : CoreId) (f : Core → Core) : (envCore s c f).part = s.part := by
  unfold envCore
  split <;> simp

@[simp] theorem core_envCore (s : State) (c c' : CoreId) (f : Core → Core) :
    (envCore s c f).core c' = if c' = c ∧ s.hasCore c = true then f (s.core c) else s.core c' := by
  unfold envCore
  split <;> simp [*]

@[simp] theorem applyEnv_part (m : EnvMove) (s : State) : (applyEnv m s).part = s.part := by
  obtain ⟨a, b, e⟩ | ⟨c, f, e, -⟩ := applyEnv_cases m s <;> simp [e]

/-- The environment moves no core that does not exist (R326). -/
theorem applyEnv_core_of_absent (m : EnvMove) {s : State} {c : CoreId} (hc : s.hasCore c = false) :
    (applyEnv m s).core c = s.core c := by
  obtain ⟨a, b, e⟩ | ⟨c', f, e, -⟩ := applyEnv_cases m s
  · simp [e]
  · rw [e, core_envCore, if_neg]
    rintro ⟨rfl, h⟩
    simp [hc] at h

/-- No move of the environment ends or starts a core's wait for a tick (R12). -/
@[simp] theorem applyEnv_wrmsrSinceTick (m : EnvMove) (s : State) (c : CoreId) :
    ((applyEnv m s).core c).wrmsrSinceTick = (s.core c).wrmsrSinceTick := by
  obtain ⟨a, b, e⟩ | ⟨c', f, e, hf⟩ := applyEnv_cases m s
  · simp [e]
  · rw [e, core_envCore]
    split
    · rename_i h
      rw [(hf _).2, h.1]
    · rfl

/-! ### What a turn leaves -/

theorem turnEffect_part {s : State} {u : Turn} {t : State} (h : TurnEffect s u t) : t.part = s.part := by
  cases h with
  | stalled => rfl
  | stopped => rfl
  | instr c _ _ h => exact instrEffect_part h
  | tick c _ _ h =>
    obtain ⟨t', ht, hp, -⟩ := tick_spec c s
    rw [h] at ht
    cases ht
    exact hp
  | env m => exact applyEnv_part m s

/-- A core that runs an instruction exists. -/
theorem hasCore_of_canRun {s : State} {c : CoreId} (h : canRun s c = true) : s.hasCore c = true := by
  simp only [canRun, Bool.and_eq_true] at h
  exact h.1.1

/-- A core whose counter logic ticks exists. -/
theorem hasCore_of_canTick {s : State} {c : CoreId} (h : canTick s c = true) : s.hasCore c = true := by
  simp only [canTick, Bool.and_eq_true] at h
  exact h.1

/-- A tick touches its own core only (R66). -/
theorem tick_other {c c' : CoreId} {s t : State} (h : tick c s = .next t) (hc : c' ≠ c) : t.core c' = s.core c' := by
  obtain ⟨t', ht, -, -, -, -, -, -, -, ho⟩ := tick_spec c s
  rw [h] at ht
  cases ht
  exact ho c' hc

/-- A tick ends its core's wait (R12). -/
theorem tick_wrmsrSinceTick {c : CoreId} {s t : State} (h : tick c s = .next t) :
    (t.core c).wrmsrSinceTick = false := by
  obtain ⟨t', ht, -, -, -, -, -, hw, -, -⟩ := tick_spec c s
  rw [h] at ht
  cases ht
  exact hw

/-- No turn moves a core that does not exist (R326). -/
theorem turnEffect_core_of_absent {s : State} {u : Turn} {t : State} (h : TurnEffect s u t) {c : CoreId}
    (hc : s.hasCore c = false) : t.core c = s.core c := by
  have ne_of_hasCore {c' : CoreId} (h' : s.hasCore c' = true) : c ≠ c' := by
    rintro rfl
    simp [hc] at h'
  cases h with
  | stalled => rfl
  | stopped => rfl
  | instr c' _ hr h => exact instrEffect_other h (ne_of_hasCore (hasCore_of_canRun hr))
  | tick c' _ hk h => exact tick_other h (ne_of_hasCore (hasCore_of_canTick hk))
  | env m => exact applyEnv_core_of_absent m hc

/-- Only a tick of a core ends its wait (R12). -/
theorem turnEffect_keeps_wait {s : State} {u : Turn} {t : State} (h : TurnEffect s u t) {c : CoreId}
    (hu : u ≠ .tick c) (hw : (s.core c).wrmsrSinceTick = true) : (t.core c).wrmsrSinceTick = true := by
  cases h with
  | stalled => exact hw
  | stopped => exact hw
  | instr _ _ _ h => exact instrEffect_keeps_wait h hw
  | tick c' _ _ h =>
    have hc : c ≠ c' := by
      rintro rfl
      exact hu rfl
    rw [tick_other h hc, hw]
  | env m => rw [applyEnv_wrmsrSinceTick, hw]

/-! ### The statements about one step -/

/-- Settles O42: the effect of one turn keeps the parameters and any core the part does not have. -/
theorem absentCoreNeverMoves : Obligations.AbsentCoreNeverMoves := by
  intro s t h
  obtain ⟨hp, hc, -⟩ := nextTurn_spec s
  have he := step_next h
  refine ⟨(turnEffect_part he).trans hp, fun h1 => ?_⟩
  have habsent : (nextTurn s).2.hasCore .core1 = false := by simp [State.hasCore, hp, h1]
  rw [turnEffect_core_of_absent he habsent, hc]

/-- Settles O31: the mark that WRMSR sets holds back the next one, and of all turns only the core's tick clears it. -/
theorem wrmsrWaitsForTick : Obligations.WrmsrWaitsForTick := by
  intro s c
  obtain ⟨-, hc, -⟩ := nextTurn_spec s
  refine ⟨fun t h => ?marks, fun ht hf hw => ?waits, fun t h => tick_wrmsrSinceTick h, fun t h hw hw' => ?onlyTick⟩
  case marks => simpa using exec_access_wrmsrSinceTick (.inl rfl) h
  case waits =>
    cases hr : canRun s c with
    | false => exact step_instr_of_not_canRun ht hr
    | true =>
      rw [step_instr_of_canRun ht hr]
      exact runInstr_waits (fetches_nextTurn.2 hf) (by rwa [hc])
  case onlyTick =>
    by_contra hu
    simp [turnEffect_keeps_wait (step_next h) hu (by rwa [hc])] at hw'

/-- Settles O27: the step is `exec` of the fetched instruction, whose only fault is the `#GP` that is recorded. -/
theorem stepRunsDecodedInstruction : Obligations.StepRunsDecodedInstruction := by
  intro s c i ht hr hf hw
  obtain ⟨-, hc, -⟩ := nextTurn_spec s
  have hstep : step s = catchGP ((nextTurn s).2.actFor c) (exec i ((nextTurn s).2.actFor c)) := by
    rw [step_instr_of_canRun ht hr]
    exact runInstr_access (fetches_nextTurn.2 hf) (by rwa [hc])
  refine ⟨fun t hx => ?_, fun r hx => ?_, fun r hx => ?_⟩
  · rw [hstep, hx]; rfl
  · rw [hstep, hx]; rfl
  · have hgp : r = .generalProtection c 0 (s.core c).pc := by
      simpa [hc] using exec_access_fault (decodeStream_access hf) hx
    rw [hstep, hx, hgp]; rfl

end Sys2Proof.Machine

/-! The counter logic against the statements' own transcription of R148, for every event, and the words that the event map
does not list. -/

namespace Sys2Proof.Machine
open Sys2Proof.Claims

/-! ### The listed and the reserved EVENT_SELECT values (R86, R87) -/

/-- The runs of consecutive EVENT_SELECT values that the event map of R86 lists, between the reserved ones of R87. -/
def listedSelects : List (Nat × Nat) :=
  [(0x00, 0x02), (0x20, 0x24), (0x26, 0x27), (0x40, 0x4C), (0x65, 0x65), (0x67, 0x67), (0x6C, 0x6D), (0x76, 0x76),
   (0x7D, 0x89), (0xC0, 0xE1), (0xE3, 0xE5), (0xE8, 0xEC), (0xEE, 0xEE), (0xF6, 0xF8)]

/-- The event map of R86 is those runs, value by value. -/
theorem eventRows_select : eventRows.map (·.1.toNat) = listedSelects.flatMap fun r => List.Ico r.1 (r.2 + 1) := rfl

/-- The default event set and the decoder's event map list the same EVENT_SELECT values, in one order. -/
theorem specEventSet_select : specEventSet.map (·.select) = eventRows.map (·.1) := rfl

theorem mem_eventRows_select {n : Nat} :
    n ∈ eventRows.map (·.1.toNat) ↔ ∃ r ∈ listedSelects, r.1 ≤ n ∧ n ≤ r.2 := by
  simp only [eventRows_select, List.mem_flatMap, List.Ico.mem, Nat.lt_succ_iff]

/-- The runs of R86 and those of R87 share no byte and leave none out. -/
theorem reservedSelects_compl {n : Nat} (hn : n < 256) :
    (∃ r ∈ reservedSelects, r.1 ≤ n ∧ n ≤ r.2) ↔ ¬ ∃ r ∈ listedSelects, r.1 ≤ n ∧ n ≤ r.2 := by
  simp only [reservedSelects, listedSelects, List.exists_mem_cons_iff, List.not_mem_nil, false_and, exists_false, or_false]
  omega

theorem eventSelectOf_toNat (w : SelWord) : (eventSelectOf w).toNat = w.toNat % 256 := by
  simp [eventSelectOf]

theorem ofNat_mod_eq_eventSelectOf (w : SelWord) : BitVec.ofNat 8 (w.toNat % 256) = eventSelectOf w := by
  rw [← eventSelectOf_toNat, BitVec.ofNat_toNat, BitVec.setWidth_eq]

/-- R87's list is what the event map of R86 leaves out. -/
theorem selectsReserved_iff_not_mem {w : SelWord} :
    SelectsReserved w ↔ eventSelectOf w ∉ eventRows.map (·.1) := by
  have hmem : eventSelectOf w ∈ eventRows.map (·.1) ↔ w.toNat % 256 ∈ eventRows.map (·.1.toNat) := by
    simp only [← eventSelectOf_toNat, List.mem_map, BitVec.toNat_inj]
  rw [hmem, mem_eventRows_select]
  exact reservedSelects_compl (Nat.mod_lt _ (by decide))

theorem eventRow_eq_none_iff {es : BitVec 8} : eventRow es = none ↔ es ∉ eventRows.map (·.1) := by
  simp only [eventRow, Option.map_eq_none_iff, List.find?_eq_none, List.mem_map, beq_iff_eq, not_exists, not_and]

/-- The decoder rejects by name exactly the words of R87's list. -/
theorem decodeSel_error_iff {w : SelWord} :
    decodeSel w = .error (.reservedEvent (eventSelectOf w)) ↔ SelectsReserved w := by
  rw [selectsReserved_iff_not_mem, ← eventRow_eq_none_iff]
  unfold decodeSel
  cases eventRow (eventSelectOf w) <;> simp

/-! ### The reserved selections (R148) -/

theorem revAtLeast_iff {need rev : Rev} : revAtLeast need rev = true ↔ rank need ≤ rank rev := by
  cases need <;> cases rev <;> decide

theorem revAtLeast_eq_false_iff {need rev : Rev} : revAtLeast need rev = false ↔ rank rev < rank need := by
  rw [← Bool.not_eq_true, revAtLeast_iff, Nat.not_le]

theorem cntMaskReserved_iff {m : BitVec 8} : cntMaskReserved m = true ↔ m.toNat > 3 := by
  simp [cntMaskReserved]

/-- A bit is defined when some row of the table that has it is defined on the revision. -/
theorem getLsbD_definedBits {rev : Rev} {e : DefinedEvent} {j : Nat} :
    (definedBits rev e).getLsbD j = true ↔ ∃ u ∈ e.bits, u.1.getLsbD j = true ∧ rank u.2 ≤ rank rev := by
  unfold definedBits
  induction e.bits with
  | nil => simp
  | cons u rest ih =>
    rw [List.foldr_cons, List.exists_mem_cons_iff]
    by_cases hu : revAtLeast u.2 rev = true
    · rw [if_pos hu, BitVec.getLsbD_or, Bool.or_eq_true, ih, and_iff_left (revAtLeast_iff.1 hu)]
    · rw [if_neg hu, ih, or_iff_right]
      exact fun h => hu (revAtLeast_iff.2 h.2)

/-- Masking off `y` leaves something of `x` exactly when `x` has a bit that `y` has not. -/
theorem and_not_ne_zero_iff {n : Nat} {x y : BitVec n} :
    x &&& ~~~y ≠ 0 ↔ ∃ j, x.getLsbD j = true ∧ y.getLsbD j = false := by
  constructor
  · intro h
    by_contra hall
    refine h (BitVec.eq_of_getLsbD_eq fun j hj => ?_)
    have hbit : (x.getLsbD j && !y.getLsbD j) = false := by
      by_contra hn
      exact hall ⟨j, by simpa using hn⟩
    refine Eq.trans ?_ BitVec.getLsbD_zero.symm
    rw [BitVec.getLsbD_and, BitVec.getLsbD_not, decide_eq_true hj, Bool.true_and, hbit]
  · rintro ⟨j, hx, hy⟩ h
    have hj : (x &&& ~~~y).getLsbD j = true := by
      rw [BitVec.getLsbD_and, BitVec.getLsbD_not, hx, hy]
      simp [BitVec.lt_of_getLsbD hx]
    have h0 : (x &&& ~~~y).getLsbD j = false := by rw [h]; exact BitVec.getLsbD_zero
    exact Bool.false_ne_true (h0.symm.trans hj)

/-- A UNIT_MASK is reserved when it sets a bit that no row of the event's table defines on the revision (R88 (d)). -/
theorem unitMaskReserved_iff {rev : Rev} {e : DefinedEvent} {um : BitVec 8} :
    unitMaskReserved rev e um = true ↔
      e.bits ≠ [] ∧ ∃ j, um.getLsbD j = true ∧ ∀ u ∈ e.bits, u.1.getLsbD j = true → rank rev < rank u.2 := by
  have hbit (j : Nat) : (definedBits rev e).getLsbD j = false ↔
      ∀ u ∈ e.bits, u.1.getLsbD j = true → rank rev < rank u.2 := by
    rw [← Bool.not_eq_true, getLsbD_definedBits]
    push Not
    rfl
  simp only [unitMaskReserved, Bool.and_eq_true, Bool.not_eq_true', List.isEmpty_eq_false_iff, bne_iff_ne,
    and_not_ne_zero_iff, hbit]

/-- The model's `reserved(s)` is the statements' second transcription of it. -/
theorem reservedSel_iff {p : Part} {es : BitVec 8} {f : EvtCtl} : reservedSel p es f = true ↔ ReservedOn p es f := by
  unfold reservedSel ReservedOn selectReserved maskReserved findEvent
  cases p.eventSet.find? fun e => e.select == es with
  | none => simp
  | some e => simp [cntMaskReserved_iff, unitMaskReserved_iff, revAtLeast_eq_false_iff, or_assoc]


/-! ### The dual-core Northbridge rule (R325) -/

theorem isNb_eventSelectOf {w : SelWord} : isNb (eventSelectOf w) = true ↔ NbWord w := by
  simp only [isNb, decide_eq_true_eq, eventSelectOf_toNat, NbWord]

theorem mem_ctrIdAll (i : CtrId) : i ∈ CtrId.all := by cases i <;> decide

theorem nbAny_iff {x : Core} : x.nbAny = true ↔ ∃ j, NbWord (x.counter j).sel := by
  simp only [Core.nbAny, List.any_eq_true, mem_ctrIdAll, true_and, Core.nbSel, isNb_eventSelectOf]

theorem nbConflict_iff {s : State} {es : BitVec 8} : nbConflict s s.acting s.target es = true ↔ Conflict s es := by
  have hes : isNb es = true ↔ 0xE0 ≤ es.toNat := by rw [isNb, decide_eq_true_eq]
  simp only [nbConflict, Conflict, Bool.and_eq_true, Bool.or_eq_true, beq_iff_eq, nbAny_iff, Core.nbSel,
    isNb_eventSelectOf, hes]

/-! ### The event count (R133) -/

/-- A row of a UNIT_MASK table adds its bit where the revision defines it (R88, R297). -/
def addRow (rev : Rev) (acc : BitVec 8) (u : BitVec 8 × Rev) : BitVec 8 :=
  if rank u.2 ≤ rank rev then acc ||| u.1 else acc

/-- Folding a table into its defined bits from the left or from the right is the same. -/
theorem definedOn_eq (e : DefinedEvent) (rev : Rev) :
    definedOn e rev = if e.bits = [] then none else some (definedBits rev e) := by
  have comm (acc : BitVec 8) (u v : BitVec 8 × Rev) :
      addRow rev (addRow rev acc u) v = addRow rev (addRow rev acc v) u := by
    unfold addRow
    split <;> split <;> simp only [BitVec.or_assoc, BitVec.or_comm u.1]
  have : RightCommutative (addRow rev) := ⟨comm⟩
  have hbits : definedBits rev e = e.bits.foldr (flip (addRow rev)) 0 := by
    unfold definedBits
    congr
    funext u acc
    simp only [flip, addRow, revAtLeast_iff, BitVec.or_comm u.1]
  rw [hbits, List.foldr_flip_eq_foldl]
  rfl

/-- A condition's oracle value is at most 1 (R9). -/
theorem conditionLimit_val (b : Bool) (raw : Occ) :
    (if b && raw != 0 then 1 else raw : Occ).val = if b = true then min raw.val 1 else raw.val := by
  revert b raw; decide

/-- The sample of a counter is R133's count for its event. -/
theorem sample_val (s : State) (info : EventInfo) (f : EvtCtl) :
    (s.sample info f).val = countOn info.select (isCondition info f.unitMask) s f := by
  unfold State.sample eventCount countOn selectsNothing oracleMask hasTable findEvent
  cases s.part.eventSet.find? fun e => e.select == info.select with
  | none =>
    simp only [Option.bind_none, Bool.false_eq_true, if_false, conditionLimit_val]
    rfl
  | some e =>
    by_cases hb : e.bits = []
    · simp only [Option.bind_some, definedOn_eq, hb, if_true, List.isEmpty_nil, Bool.not_true, Bool.false_and,
        Bool.false_eq_true, if_false, conditionLimit_val]
      rfl
    · have hne : e.bits.isEmpty = false := by simpa using hb
      simp only [Option.bind_some, definedOn_eq, if_neg hb, hne, Bool.not_false, Bool.true_and, beq_iff_eq, if_true]
      by_cases h0 : f.unitMask &&& definedBits s.part.rev e = 0
      · simp [h0]
      · simp only [if_neg h0, conditionLimit_val]
        rfl

/-! ### The pseudocode of R148 -/

/-- `cond` of R136 as the pseudocode writes it. -/
theorem condition_eq (f : EvtCtl) (n : Occ) :
    condition f n = if f.cntMask.toNat = 0 then decide (n.val ≥ 1)
      else if f.inv = false then decide (n.val ≥ f.cntMask.toNat) else decide (n.val < f.cntMask.toNat) := by
  cases hf : f.inv <;> simp [condition, hf]

theorem privOk_iff {f : EvtCtl} {cpl : BitVec 2} :
    privOk f cpl = true ↔ (cpl.toNat > 0 ∧ f.usr = true) ∨ (cpl.toNat = 0 ∧ f.os = true) := by
  by_cases h : cpl = 0
  · simp [privOk, h]
  · have hpos : cpl.toNat ≠ 0 := by bv_omega
    rw [privOk, if_neg h]
    simp [hpos, Nat.pos_of_ne_zero hpos]

/-- `inc` of R141 as the pseudocode of R148 writes it. -/
theorem increment_eq (f : EvtCtl) (cpl : BitVec 2) (n : Occ) (prev : Bool) :
    increment f cpl n prev =
      if f.en = false ∨ ¬((cpl.toNat > 0 ∧ f.usr = true) ∨ (cpl.toNat = 0 ∧ f.os = true)) then 0
      else if f.e = true then (if condition f n = true ∧ prev = false then 1 else 0)
      else if f.cntMask.toNat = 0 then n.val else if condition f n = true then 1 else 0 := by
  have hedge : edgeInc f n prev = if condition f n = true ∧ prev = false then 1 else 0 := by
    cases hc : condition f n <;> cases prev <;> simp [edgeInc, hc]
  have hlevel : levelInc f n = if f.cntMask.toNat = 0 then n.val else if condition f n = true then 1 else 0 := by
    cases hc : condition f n <;> simp [levelInc, hc]
  simp only [increment, hedge, hlevel, ← privOk_iff]
  cases f.en <;> cases privOk f cpl <;> simp

theorem overflows_iff {ctr : Count48} {inc : Nat} : overflows ctr inc = true ↔ ctr.toNat + inc ≥ 2 ^ 48 := by
  rw [overflows, decide_eq_true_eq]

theorem pinToggles_iff {f : EvtCtl} {ctr : Count48} {inc : Nat} :
    pinToggles f ctr inc = true ↔ (f.pc = true ∧ ctr.toNat + inc ≥ 2 ^ 48) ∨ (f.pc = false ∧ inc > 0) := by
  cases hpc : f.pc <;> simp [pinToggles, hpc, overflows_iff]

theorem xor_eq_ite_not (a b : Bool) : (a ^^ b) = if b = true then !a else a := by
  cases b <;> simp

theorem sumMod_eq (ctr : Count48) (inc : Nat) : sumMod ctr inc = BitVec.ofNat 48 ((ctr.toNat + inc) % 2 ^ 48) := by
  exact BitVec.eq_of_toNat_eq (by simp [sumMod])

theorem ticked_specified (k : Counter) (f : EvtCtl) (cpl : BitVec 2) (n : Occ) (t d : Nat) :
    k.ticked .specified f cpl n t d = r148 f cpl n.val t k := by
  simp only [r148, Counter.ticked, nextCtr, nextPrev, nextPin, requests, sumMod_eq, xor_eq_ite_not, pinToggles_iff,
    Bool.and_eq_true, overflows_iff, ← condition_eq, ← increment_eq, and_comm (a := f.int = true)]

theorem ticked_free (k : Counter) (f : EvtCtl) (cpl : BitVec 2) (n : Occ) (t d : Nat) :
    k.ticked .free f cpl n t d = r148Free f t d k := by
  simp only [r148Free, Counter.ticked, nextCtr, nextPrev, nextPin, requests, xor_eq_ite_not, Bool.and_eq_true]

theorem ticked_freePrev (k : Counter) (f : EvtCtl) (cpl : BitVec 2) (n : Occ) (t d : Nat) :
    k.ticked .freePrev f cpl n t d = r148Held d k := rfl

theorem count_eq_withCounter (s : State) (m : CountMode) (f : EvtCtl) (n : Occ) :
    s.count m f n = withCounter s (((s.core s.acting).counter s.target).ticked m f (s.core s.acting).cpl n
      (s.core s.acting).clock s.draws) m.draws := rfl

/-! ### The mode of a counter -/

theorem countMode_specified {s : State} {info : EventInfo} {f : EvtCtl} (hr : ¬ ReservedOn s.part info.select f)
    (hc : ¬ (f.en = true ∧ Conflict s info.select)) : countMode s info f = .specified := by
  rw [countMode, if_neg (mt reservedSel_iff.1 hr), if_neg]
  rwa [Bool.and_eq_true, nbConflict_iff]

theorem countMode_free {s : State} {info : EventInfo} {f : EvtCtl} (he : f.en = true)
    (h : ReservedOn s.part info.select f ∨ Conflict s info.select) : countMode s info f = .free := by
  by_cases hr : reservedSel s.part info.select f = true
  · rw [countMode, if_pos hr, if_pos he]
  · have hc := h.resolve_left (mt reservedSel_iff.2 hr)
    rw [countMode, if_neg hr, he, nbConflict_iff.2 hc]; rfl

theorem countMode_freePrev {s : State} {info : EventInfo} {f : EvtCtl} (he : f.en = false)
    (hr : ReservedOn s.part info.select f) : countMode s info f = .freePrev := by
  simp [countMode, reservedSel_iff.2 hr, he]

/-- Every event word runs R148's pseudocode, in each of its three branches. -/
theorem countEvent_stepsBy (info : EventInfo) (f : EvtCtl) (s : State) :
    StepsBy (countEvent info f s) info.select (isCondition info f.unitMask) f s := by
  refine ⟨fun hr hc => ?_, fun he h => ?_, fun he hr => ?_⟩
  · rw [countEvent, countMode_specified hr hc, count_eq_withCounter, ticked_specified, sample_val]; rfl
  · rw [countEvent, countMode_free he h, count_eq_withCounter, ticked_free]; rfl
  · rw [countEvent, countMode_freePrev he hr, count_eq_withCounter, ticked_freePrev]; rfl


/-! ### The words that the event map does not list -/

/-- A word of R87's list selects an event without description. -/
theorem selectedEvent_of_selectsReserved {w : SelWord} (h : SelectsReserved w) :
    selectedEvent w = unlistedEvent (eventSelectOf w) :=
  selectedEvent_error (decodeSel_error_iff.2 h)

/-- The default event set defines the events that the event map lists. -/
theorem selectsReserved_iff_default {w : SelWord} :
    SelectsReserved w ↔ ∀ e ∈ specEventSet, e.select ≠ eventSelectOf w := by
  rw [selectsReserved_iff_not_mem, ← specEventSet_select]
  simp only [List.mem_map, not_exists, not_and, ne_eq]

/-- An EVENT_SELECT that the part's event set does not define is reserved, whatever the word's other fields are. -/
theorem reservedOn_of_undefined {p : Part} {es : BitVec 8} (f : EvtCtl) (h : ∀ e ∈ p.eventSet, e.select ≠ es) :
    ReservedOn p es f := by
  have hnone : p.eventSet.find? (fun e => e.select == es) = none := by simpa [List.find?_eq_none] using h
  rw [ReservedOn, hnone]
  exact .inr (.inr trivial)

/-- The selected event of a counter whose EVENT_SELECT the part does not define is reserved there. -/
theorem reservedOn_selectedEvent {s : State} {c : CoreId} {i : CtrId}
    (h : ∀ e ∈ s.part.eventSet, e.select.toNat ≠ ((s.core c).counter i).sel.toNat % 256) :
    ReservedOn (s.aimAt c i).part (selectedEvent ((s.core c).counter i).sel).select
      (ctlOf ((s.core c).counter i).sel) := by
  refine reservedOn_of_undefined _ fun e he hs => h e he ?_
  rw [hs, selectedEvent_select, eventSelectOf_toNat]

/-- Settles O26: R87's list is the complement of the event map, and a word of it runs R148 for the event without
description. -/
theorem unlistedEventSelects : Obligations.UnlistedEventSelects := by
  refine ⟨fun w => ?list, fun s c i h => ⟨fun he => ?free, fun he => ?held⟩, fun s c i h => ?tick⟩
  case list => rw [ofNat_mod_eq_eventSelectOf, selectsReserved_iff_default]
  case free => exact countMode_free he (.inl (reservedOn_selectedEvent h))
  case held => exact countMode_freePrev he (reservedOn_selectedEvent h)
  case tick =>
    rw [tickCounter_countEvent, selectedEvent_of_selectsReserved h, ofNat_mod_eq_eventSelectOf]
    exact countEvent_stepsBy (unlistedEvent _) _ _

end Sys2Proof.Machine

/-! The code of an instruction and what it decodes to. -/

namespace Sys2Proof.Machine

/-! ### Assembling a PERFEVTSEL word and taking it apart (R31, R32) -/

theorem eventSelectOf_word (es : BitVec 8) (f : EvtCtl) : eventSelectOf (EvtCtl.word es f) = es :=
  BitVec.extractLsb'_append_eq_right

theorem ctlOf_word (es : BitVec 8) (f : EvtCtl) : ctlOf (EvtCtl.word es f) = f := by
  have hum : (EvtCtl.word es f).extractLsb' 8 8 = f.unitMask := by
    simp only [EvtCtl.word, BitVec.extractLsb'_append_eq_of_le, Nat.le_refl]
    exact BitVec.extractLsb'_append_eq_right
  have hcm : (EvtCtl.word es f).extractLsb' 24 8 = f.cntMask := by
    simp only [EvtCtl.word, BitVec.extractLsb'_append_eq_of_le, Nat.reduceLeDiff, Nat.reduceSub]
    exact BitVec.extractLsb'_eq_self
  simp only [ctlOf, hum, hcm]
  simp only [EvtCtl.word, BitVec.getLsbD_append, BitVec.getLsbD_ofBool]
  rfl

/-- The fields of a stored word are adjacent slices, so together they are the word. -/
theorem word_ctlOf (w : SelWord) : EvtCtl.word (eventSelectOf w) (ctlOf w) = w := by
  have hbit (j : Nat) : BitVec.ofBool (w.getLsbD j) = w.extractLsb' j 1 := by
    ext k hk
    simp [Nat.lt_one_iff.1 hk]
  simp only [EvtCtl.word, ctlOf, eventSelectOf, hbit, BitVec.extractLsb'_append_extractLsb'_eq_extractLsb']
  exact BitVec.extractLsb'_eq_self

/-! ### The encoder and the decoder against the event map (R83, R86, R90) -/

/-- The code of an event word is its EVENT_SELECT and its fields assembled. -/
theorem encode_event {i : Instr} {info : EventInfo} {f : EvtCtl} (h : eventOf i = some (info, f)) :
    encode i = .evtsel ((EvtCtl.word info.select f).setWidth 64) := by
  cases i <;> cases h <;> rfl

/-- The event map has a row for every event word. -/
theorem eventRow_event {i : Instr} {info : EventInfo} {f : EvtCtl} (h : eventOf i = some (info, f)) :
    ∃ mk, eventRow info.select = some mk ∧ mk f = i := by
  cases i <;> cases h <;> exact ⟨_, rfl, rfl⟩

/-- What is no event word is an access instruction. -/
theorem access_of_eventOf_none {i : Instr} (h : eventOf i = none) : i = .wrmsr ∨ i = .rdmsr ∨ i = .rdpmc := by
  cases i <;> simp_all [eventOf]

/-- An assembled word decodes to the event word it was assembled from. -/
theorem decodeSel_word {i : Instr} {info : EventInfo} {f : EvtCtl} (h : eventOf i = some (info, f)) :
    decodeSel (EvtCtl.word info.select f) = .ok i := by
  obtain ⟨mk, hrow, rfl⟩ := eventRow_event h
  rw [decodeSel, eventSelectOf_word, ctlOf_word, hrow]

/-- A stored word that decodes is the encoding of what it decodes to. -/
theorem encode_of_decodeSel {w : SelWord} {i : Instr} (h : decodeSel w = .ok i) :
    encode i = .evtsel (w.setWidth 64) := by
  obtain ⟨info, he, hs⟩ := decodeSel_ok h
  rw [encode_event he, hs, word_ctlOf]

/-! ### The statements about encodings -/

/-- Settles O44: an access instruction's bytes evaluate; an event word's row is found and its fields come apart. -/
theorem decodeEncode : Obligations.DecodeEncode := by
  intro i
  cases he : eventOf i with
  | none => obtain rfl | rfl | rfl := access_of_eventOf_none he <;> rfl
  | some p =>
    obtain ⟨info, f⟩ := p
    have hw : ((EvtCtl.word info.select f).setWidth 64).setWidth 32 = EvtCtl.word info.select f := by
      rw [BitVec.setWidth_setWidth_of_le _ (by decide), BitVec.setWidth_eq]
    rw [encode_event he, decode, hw]
    exact decodeSel_word he

/-- Settles O45: the stored 32 bits are assembled again from their fields. -/
theorem encodeDecodeWord : Obligations.EncodeDecodeWord := by
  intro w i h
  rw [encode_of_decodeSel h]
  congr 1
  exact BitVec.eq_of_toNat_eq (by simp)

/-- Settles O48: a decoded event word has the word's own fields. -/
theorem fieldsAreSlicesOfWord : Obligations.FieldsAreSlicesOfWord := by
  intro w i info f hd he
  obtain ⟨info', he', hs⟩ := decodeSel_ok hd
  cases he.symm.trans he'
  have hcm : (ctlOf w).cntMask.toNat = w.toNat / 2 ^ 24 := by
    have := w.isLt
    simp only [ctlOf, BitVec.extractLsb'_toNat, Nat.shiftRight_eq_div_pow]
    omega
  refine ⟨?_, ?_, rfl, rfl, rfl, rfl, rfl, rfl, rfl, rfl, hcm⟩
  · rw [hs]; exact eventSelectOf_toNat w
  · simp only [ctlOf, BitVec.extractLsb'_toNat, Nat.shiftRight_eq_div_pow]

/-- Settles O49: each word and each pair of bytes evaluates. -/
theorem specWordsDecode : Obligations.SpecWordsDecode :=
  ⟨rfl, rfl, rfl, rfl, rfl, rfl, rfl, rfl⟩

end Sys2Proof.Machine

/-! The register access instructions against the statements' own register numbers and loads, the reset state, and what
the steps that are no tick leave of a counter. -/

namespace Sys2Proof.Machine
open Sys2Proof.Claims

/-! ### The number spaces (R27, R30, R61) -/

theorem evtSelMsr_eq (i : CtrId) : evtSelMsr i = msrNumber (.evtSel i) := by cases i <;> rfl

theorem ctrMsr_eq (i : CtrId) : ctrMsr i = msrNumber (.ctr i) := by cases i <;> rfl

theorem ctrIndex_eq (i : CtrId) : ctrIndex i = BitVec.ofNat 32 (ctrNumber i) := by cases i <;> rfl

/-- A number names no PMU register when it is none of the eight. -/
theorem msrReg_eq_none {a : Reg} (h : ∀ i, a ≠ evtSelMsr i ∧ a ≠ ctrMsr i) : msrReg a = none := by
  rw [Option.eq_none_iff_forall_ne_some]
  intro r hr
  have ha := msrReg_eq_some.1 hr
  cases r with
  | evtSel i => exact (h i).1 (ha.trans (evtSelMsr_eq i).symm)
  | ctr i => exact (h i).2 (ha.trans (ctrMsr_eq i).symm)

/-! ### EDX:EAX (R63) -/

theorem edxEax_toNat (x : Core) : x.edxEax.toNat = x.edx.toNat * 2 ^ 32 + x.eax.toNat := by
  rw [Core.edxEax, BitVec.toNat_append, ← Nat.shiftLeft_add_eq_or_of_lt x.eax.isLt, Nat.shiftLeft_eq]

theorem writeMsr_cpl (x : Core) (r : MsrReg) (v : MsrValue) : (x.writeMsr r v).cpl = x.cpl := by
  cases r <;> simp [Core.writeMsr]

theorem writeMsr_ecx (x : Core) (r : MsrReg) (v : MsrValue) : (x.writeMsr r v).ecx = x.ecx := by
  cases r <;> simp [Core.writeMsr]

/-- WRMSR to an event-select register stores EAX (R107). -/
theorem writeMsr_evtSel (x : Core) (i : CtrId) :
    x.writeMsr (.evtSel i) x.edxEax = x.setCounter i { x.counter i with sel := x.eax } := by
  rw [Core.writeMsr, edxEax_setWidth32]

/-- WRMSR to a counter stores bits 47–0 of EDX:EAX (R106). -/
theorem writeMsr_ctr (x : Core) (i : CtrId) :
    x.writeMsr (.ctr i) x.edxEax =
      x.setCounter i { x.counter i with ctr := BitVec.ofNat 48 (x.edx.toNat * 2 ^ 32 + x.eax.toNat) } := by
  have hv : x.edxEax.setWidth 48 = BitVec.ofNat 48 (x.edx.toNat * 2 ^ 32 + x.eax.toNat) := by
    rw [← edxEax_toNat, BitVec.ofNat_toNat]
  rw [Core.writeMsr, hv]

/-- EDX takes bits 63–32 and EAX bits 31–0 (R102, R110). -/
theorem loadEdxEax_eq (x : Core) (v : MsrValue) :
    x.loadEdxEax v = { x with edx := BitVec.ofNat 32 (v.toNat / 2 ^ 32), eax := BitVec.ofNat 32 (v.toNat % 2 ^ 32) } := by
  have hhi : v.extractLsb' 32 32 = BitVec.ofNat 32 (v.toNat / 2 ^ 32) :=
    BitVec.eq_of_toNat_eq (by simp [Nat.shiftRight_eq_div_pow])
  have hlo : v.extractLsb' 0 32 = BitVec.ofNat 32 (v.toNat % 2 ^ 32) :=
    BitVec.eq_of_toNat_eq (by simp)
  rw [Core.loadEdxEax, hhi, hlo]

/-- Reading an event-select register loads EDX with 0 and EAX with the stored bits (R102). -/
theorem load_evtSel (x : Core) (i : CtrId) :
    (x.loadEdxEax (x.readMsr (.evtSel i))).advance 2 = loadedSel x (x.counter i).sel := by
  have hlt := (x.counter i).sel.isLt
  rw [loadEdxEax_eq, Core.readMsr, BitVec.toNat_setWidth_of_le (by decide), Nat.div_eq_of_lt hlt, Nat.mod_eq_of_lt hlt,
    BitVec.ofNat_toNat, BitVec.setWidth_eq]
  rfl

/-- Reading a counter loads EDX with bits 47–32 and EAX with bits 31–0 (R102, R110). -/
theorem load_ctr (x : Core) (i : CtrId) :
    (x.loadEdxEax (x.readMsr (.ctr i))).advance 2 = loaded x (x.counter i).ctr := by
  rw [loadEdxEax_eq, Core.readMsr, BitVec.toNat_setWidth_of_le (by decide)]
  rfl

/-- Of the EDX written to a counter its low 16 bits come back: bits 47–32 of EDX:EAX (R25, R63). -/
theorem ctr_high_half (hi lo : Reg) :
    BitVec.ofNat 32 ((BitVec.ofNat 48 (hi.toNat * 2 ^ 32 + lo.toNat)).toNat / 2 ^ 32) = hi &&& 0xFFFF := by
  apply BitVec.eq_of_toNat_eq
  have hmask : (hi &&& 0xFFFF).toNat = hi.toNat % 2 ^ 16 := Nat.and_two_pow_sub_one_eq_mod hi.toNat 16
  rw [hmask, BitVec.toNat_ofNat, BitVec.toNat_ofNat]
  have := lo.isLt
  omega

/-- The EAX written to a counter comes back. -/
theorem ctr_low_half (hi lo : Reg) :
    BitVec.ofNat 32 ((BitVec.ofNat 48 (hi.toNat * 2 ^ 32 + lo.toNat)).toNat % 2 ^ 32) = lo := by
  apply BitVec.eq_of_toNat_eq
  rw [BitVec.toNat_ofNat, BitVec.toNat_ofNat]
  have := lo.isLt
  omega

/-! ### The access instructions, outcome by outcome (R102 to R105, R110 to R112) -/

theorem exec_wrmsr_next {s : State} {r : MsrReg} (h0 : s.cur.cpl = 0) (hr : s.cur.ecx = msrNumber r) :
    exec .wrmsr s = .next (s.setCur { (s.cur.writeMsr r s.cur.edxEax).advance 2 with wrmsrSinceTick := true }) := by
  simp [exec, execWrmsr, h0, hr]

/-- What a WRMSR that completes leaves for the next access instruction: CPL 0, ECX and the counters as written. -/
theorem exec_wrmsr_leaves {s t : State} {r : MsrReg} (h : exec .wrmsr s = .next t) (hr : s.cur.ecx = msrNumber r) :
    t.cur.cpl = 0 ∧ t.cur.ecx = s.cur.ecx ∧
      ∀ i, t.cur.counter i = (s.cur.writeMsr r s.cur.edxEax).counter i := by
  obtain ⟨h0, -⟩ := execWrmsr_next h
  rw [exec_wrmsr_next h0 hr] at h
  cases h
  rw [cur_setCur]
  refine ⟨?_, ?_, fun i => by cases i <;> rfl⟩
  · rw [← h0]; exact writeMsr_cpl _ _ _
  · exact writeMsr_ecx _ _ _

theorem exec_rdmsr_next {s : State} {r : MsrReg} (h0 : s.cur.cpl = 0) (hr : s.cur.ecx = msrNumber r) :
    exec .rdmsr s = .next (s.setCur ((s.cur.loadEdxEax (s.cur.readMsr r)).advance 2)) := by
  simp [exec, execRdmsr, h0, hr]

theorem exec_rdpmc_next {s : State} {i : CtrId} (hp : s.cur.cpl = 0 ∨ s.cur.pce = true) (hi : s.cur.ecx = ctrIndex i) :
    exec .rdpmc s = .next (s.setCur ((s.cur.loadEdxEax (s.cur.readMsr (.ctr i))).advance 2)) := by
  have hc : ¬ (s.cur.cpl ≠ 0 ∧ s.cur.pce = false) := fun ⟨h0, h1⟩ => hp.elim h0 (by simp [h1])
  rw [exec, execRdpmc, if_neg hc, hi, ctrIndex_eq, pmcIndex_ctrNumber]

/-! ### The statements about the access instructions -/

/-- Settles O1: which register ECX names decides, and each kind of register stores its own bits of EDX:EAX. -/
theorem wrmsrMeaning : Obligations.WrmsrMeaning := by
  intro s
  refine ⟨fun h0 i hi => ?evtSel, fun h0 i hi => ?ctr, fun h => ?gp, fun h0 h => ?refused⟩
  case evtSel =>
    rw [exec_wrmsr_next h0 (hi.trans (evtSelMsr_eq i)), writeMsr_evtSel, setCounter_advance]
  case ctr =>
    rw [exec_wrmsr_next h0 (hi.trans (ctrMsr_eq i)), writeMsr_ctr, setCounter_advance]
  case gp => rw [exec, execWrmsr, if_pos h, raiseGP]
  case refused => simp [exec, execWrmsr, h0, msrReg_eq_none h]

/-- Settles O2: which register ECX names decides, and each kind of register loads EDX:EAX in its own way. -/
theorem rdmsrMeaning : Obligations.RdmsrMeaning := by
  intro s
  refine ⟨fun h0 i hi => ?evtSel, fun h0 i hi => ?ctr, fun h => ?gp, fun h0 h => ?refused⟩
  case evtSel => rw [exec_rdmsr_next h0 (hi.trans (evtSelMsr_eq i)), load_evtSel]
  case ctr => rw [exec_rdmsr_next h0 (hi.trans (ctrMsr_eq i)), load_ctr]
  case gp => rw [exec, execRdmsr, if_pos h, raiseGP]
  case refused => simp [exec, execRdmsr, h0, msrReg_eq_none h]

/-- Settles O3: an index of a counter loads it; an index above 3 names none. -/
theorem rdpmcMeaning : Obligations.RdpmcMeaning := by
  intro s
  refine ⟨fun hp i hi => ?ctr, fun h => ?index, fun h0 h1 => ?privilege⟩
  case ctr => rw [exec_rdpmc_next hp hi, load_ctr]
  case index =>
    have hn : pmcIndex s.cur.ecx = none := pmcIndex_eq_none.2 h
    simp [exec, execRdpmc, hn, raiseGP]
  case privilege => rw [exec, execRdpmc, if_pos ⟨h0, h1⟩, raiseGP]

/-- Settles O5: WRMSR leaves CPL and ECX, so RDMSR finds the register it has just written. -/
theorem rdmsrAfterWrmsrReadsWrite : Obligations.RdmsrAfterWrmsrReadsWrite := by
  intro s t i h
  obtain ⟨readSel, readCtr, -⟩ := rdmsrMeaning t
  refine ⟨fun hi => ?evtSel, fun hi => ?ctr⟩
  case evtSel =>
    obtain ⟨h0, hecx, hk⟩ := exec_wrmsr_leaves h (hi.trans (evtSelMsr_eq i))
    have hsel : (t.cur.counter i).sel = s.cur.eax := by rw [hk, writeMsr_evtSel]; simp
    refine ⟨_, readSel h0 i (hecx.trans hi), ?_, ?_⟩
    · rw [cur_setCur]; rfl
    · rw [cur_setCur]; exact hsel
  case ctr =>
    obtain ⟨h0, hecx, hk⟩ := exec_wrmsr_leaves h (hi.trans (ctrMsr_eq i))
    have hctr : (t.cur.counter i).ctr = BitVec.ofNat 48 (s.cur.edx.toNat * 2 ^ 32 + s.cur.eax.toNat) := by
      rw [hk, writeMsr_ctr]; simp
    refine ⟨_, readCtr h0 i (hecx.trans hi), ?_, ?_⟩
    · rw [cur_setCur, loaded, hctr]; exact ctr_high_half _ _
    · rw [cur_setCur, loaded, hctr]; exact ctr_low_half _ _

/-! ### Reset and the steps that are no tick -/

/-- Settles O43: every core resets to `Core.reset` and every counter to `Counter.reset`. -/
theorem resetCountersDisabled : Obligations.ResetCountersDisabled := by
  intro c i
  have hc : State.reset.core c = Core.reset := by cases c <;> rfl
  have hk : Core.reset.counter i = Counter.reset := by cases i <;> rfl
  rw [hc, hk]
  exact ⟨rfl, rfl, rfl, rfl, rfl⟩

/-- Settles O33: of the ways a turn can change a counter only the tick touches more than its two registers. -/
theorem onlyTicksMovePrevPinAndRequests : Obligations.OnlyTicksMovePrevPinAndRequests := by
  intro s t c i h hu
  obtain ⟨-, hc, -⟩ := nextTurn_spec s
  rw [← hc]
  obtain e | ⟨-, -, -, -, r, -, e⟩ | ⟨hu', -⟩ := turn_counter (step_next h) c i
  · rw [e]; exact ⟨rfl, rfl, rfl⟩
  · rw [e, counter_writeMsr]; exact ⟨rfl, rfl, rfl⟩
  · exact absurd hu' hu

end Sys2Proof.Machine

/-! Memory: what each agent's turn leaves of it, that no instruction and no tick sees it, and what one core's turn
leaves of the other core and of its own next tick. -/

namespace Sys2Proof.Machine
open Sys2Proof.Claims

/-! ### What a turn leaves of memory (R60) -/

/-- No step of an instruction stream writes memory. -/
theorem instrEffect_mem {c : CoreId} {s t : State} (h : InstrEffect c s t) : t.mem = s.mem := by
  cases h with
  | waits => rfl
  | completes i _ _ hi hx =>
    obtain ⟨-, hm, -⟩ := exec_access_frame hi hx
    exact hm
  | raises => simp [State.recordGP]
  | moves => simp [execMovImm]

theorem tick_mem {c : CoreId} {s t : State} (h : tick c s = .next t) : t.mem = s.mem := by
  obtain ⟨t', ht, -, hm, -⟩ := tick_spec c s
  rw [h] at ht
  cases ht
  exact hm

@[simp] theorem envCore_mem (s : State) (c : CoreId) (f : Core → Core) : (envCore s c f).mem = s.mem := by
  unfold envCore
  split <;> simp

/-- Of the environment's moves only the store writes memory. -/
theorem applyEnv_mem {m : EnvMove} (s : State) (hm : ∀ a b, m ≠ .store a b) : (applyEnv m s).mem = s.mem := by
  cases m with
  | store a b => exact absurd rfl (hm a b)
  | deliver c a l => exact envCore_mem s c fun x => { x with raised := none, pc := a, cpl := l }
  | setCpl | setHalted | setPce | setReg | setPc => exact envCore_mem s _ _

/-- Everything one turn can do to memory: nothing, unless it is a store of the environment. -/
theorem turnEffect_mem {s : State} {u : Turn} {t : State} (h : TurnEffect s u t)
    (hu : ∀ a b, u ≠ .env (.store a b)) : t.mem = s.mem := by
  cases h with
  | stalled => rfl
  | stopped => rfl
  | instr _ _ _ h => exact instrEffect_mem h
  | tick _ _ _ h => exact tick_mem h
  | env m => exact applyEnv_mem s fun a b hm => hu a b (congrArg Turn.env hm)

/-- One turn keeps the canonical form: a store writes an address of the 64-bit space in its place. -/
theorem turnEffect_memWf {s : State} {u : Turn} {t : State} (h : TurnEffect s u t) (hs : memWf s.mem = true) :
    memWf t.mem = true := by
  by_cases hu : ∃ a b, u = .env (.store a b)
  · obtain ⟨a, b, rfl⟩ := hu
    cases h
    exact memWf_memWrite b hs a.isLt
  · rw [turnEffect_mem h fun a b e => hu ⟨a, b, e⟩]
    exact hs

/-- Settles O38: one turn keeps the canonical form, and only a store's turn writes memory. -/
theorem stepKeepsMemoryCanonical : Obligations.StepKeepsMemoryCanonical := by
  intro s t h hs
  obtain ⟨-, -, hm⟩ := nextTurn_spec s
  rw [← hm] at hs ⊢
  exact ⟨turnEffect_memWf (step_next h) hs, turnEffect_mem (step_next h)⟩

/-- Settles O39: no byte is listed at reset. -/
theorem resetMemoryCanonical : Obligations.ResetMemoryCanonical := rfl

/-! ### The other core (R66) -/

/-- An instruction stream and a counter logic each touch their own core only. -/
theorem turnEffect_other {s : State} {u : Turn} {t : State} (h : TurnEffect s u t) {c c' : CoreId}
    (hu : u = .instr c ∨ u = .tick c) (hc : c' ≠ c) : t.core c' = s.core c' := by
  cases h with
  | stalled => rfl
  | stopped => rfl
  | instr d _ _ h =>
    obtain rfl : d = c := by simpa using hu
    exact instrEffect_other h hc
  | tick d _ _ h =>
    obtain rfl : d = c := by simpa using hu
    exact tick_other h hc
  | env m => simp at hu

/-- Settles O35: the turn is its agent's, which touches its own core only. -/
theorem otherCoreUntouched : Obligations.OtherCoreUntouched := by
  intro s t c h hu
  obtain ⟨-, hc, -⟩ := nextTurn_spec s
  rw [← hc]
  exact turnEffect_other (step_next h) hu (other_ne c)

/-! ### Meanings that do not see memory (R60) -/

/-- With other memory `f` has the same outcome, and a next state has the memory that `f` started with. -/
def MemoryBlind (f : State → Res) : Prop :=
  ∀ (s : State) (m : List Host.Cell), f { s with mem := m } = (f s).andThen fun t => .next { t with mem := m }

theorem MemoryBlind.andThen {f g : State → Res} (hf : MemoryBlind f) (hg : MemoryBlind g) :
    MemoryBlind fun s => (f s).andThen g := by
  intro s m
  simp only [hf s m]
  cases f s with
  | next t => exact hg t m
  | fault => rfl
  | refused => rfl

theorem cur_withMem (s : State) (m : List Host.Cell) : ({ s with mem := m } : State).cur = s.cur := by
  simp [State.cur]

theorem setCore_withMem (s : State) (m : List Host.Cell) (c : CoreId) (x : Core) :
    ({ s with mem := m } : State).setCore c x = { s.setCore c x with mem := m } := by cases c <;> rfl

theorem setCur_withMem (s : State) (m : List Host.Cell) (x : Core) :
    ({ s with mem := m } : State).setCur x = { s.setCur x with mem := m } := setCore_withMem s m _ x

theorem raiseGP_withMem (s : State) (m : List Host.Cell) : raiseGP { s with mem := m } = raiseGP s := by
  simp only [raiseGP, cur_withMem]

/-- An access instruction reads and writes the acting core only. -/
theorem exec_access_memoryBlind {i : Instr} (hi : i = .wrmsr ∨ i = .rdmsr ∨ i = .rdpmc) : MemoryBlind (exec i) := by
  intro s m
  rcases hi with rfl | rfl | rfl <;>
    simp only [exec, execWrmsr, execRdmsr, execRdpmc, cur_withMem, setCur_withMem, raiseGP_withMem]
  all_goals
    split
    · rfl
    · split <;> rfl

theorem nbConflict_withMem (s : State) (m : List Host.Cell) (c : CoreId) (i : CtrId) (es : BitVec 8) :
    nbConflict { s with mem := m } c i es = nbConflict s c i es := by
  simp only [nbConflict, core_withMem]

theorem countMode_withMem (s : State) (m : List Host.Cell) (info : EventInfo) (f : EvtCtl) :
    countMode { s with mem := m } info f = countMode s info f := by
  unfold countMode
  rw [nbConflict_withMem]

theorem sample_withMem (s : State) (m : List Host.Cell) (info : EventInfo) (f : EvtCtl) :
    ({ s with mem := m } : State).sample info f = s.sample info f := by
  simp only [State.sample, cur_withMem]

theorem count_withMem (s : State) (m : List Host.Cell) (mode : CountMode) (f : EvtCtl) (n : Occ) :
    ({ s with mem := m } : State).count mode f n = { s.count mode f n with mem := m } := by
  simp only [State.count, cur_withMem, setCur_withMem]

theorem countEvent_memoryBlind (info : EventInfo) (f : EvtCtl) : MemoryBlind (countEvent info f) := by
  intro s m
  simp only [countEvent, countMode_withMem, sample_withMem, count_withMem, Res.andThen]

/-- An instruction is an event word, which steps a counter, or one of the three access instructions. -/
theorem exec_memoryBlind (i : Instr) : MemoryBlind (exec i) := by
  cases he : eventOf i with
  | some p =>
    obtain ⟨info, f⟩ := p
    have hexec : exec i = countEvent info f := funext (exec_event he)
    rw [hexec]
    exact countEvent_memoryBlind info f
  | none => exact exec_access_memoryBlind (access_of_eventOf_none he)

theorem tickCounter_memoryBlind (c : CoreId) (i : CtrId) : MemoryBlind (tickCounter c i) := by
  intro s m
  simp only [tickCounter_countEvent, core_withMem]
  exact countEvent_memoryBlind _ _ (s.aimAt c i) m

theorem endTick_memoryBlind (c : CoreId) : MemoryBlind fun s => .next (endTick c s) := by
  intro s m
  simp only [endTick, core_withMem, setCore_withMem, Res.andThen]

theorem tick_memoryBlind (c : CoreId) : MemoryBlind (tick c) :=
  (tickCounter_memoryBlind c .ctr0).andThen <| (tickCounter_memoryBlind c .ctr1).andThen <|
    (tickCounter_memoryBlind c .ctr2).andThen <| (tickCounter_memoryBlind c .ctr3).andThen <| endTick_memoryBlind c

/-- Settles O37: an instruction is one memory-blind meaning, and a tick is five of them in turn. -/
theorem instructionsTouchNoMemory : Obligations.InstructionsTouchNoMemory :=
  fun s m => ⟨fun i => exec_memoryBlind i s m, fun c => tick_memoryBlind c s m⟩

/-! ### The tick after a write of an event-select register (R71, R132) -/

/-- WRMSR of an event-select register stores EAX there, and what else the counter's next tick reads of the core is as
before. -/
theorem exec_wrmsr_evtSel_core {s t : State} {i : CtrId} (h : exec .wrmsr s = .next t) (hi : s.cur.ecx = evtSelMsr i) :
    (t.core s.acting).counter i = { s.cur.counter i with sel := s.cur.eax } ∧
      (t.core s.acting).cpl = s.cur.cpl ∧ (t.core s.acting).clock = s.cur.clock := by
  obtain ⟨-, -, -, -, hact, -, hclock, -⟩ := exec_access_frame (.inl rfl) h
  obtain ⟨h0, -⟩ := execWrmsr_next h
  obtain ⟨hcpl, -, hk⟩ := exec_wrmsr_leaves h (hi.trans (evtSelMsr_eq i))
  have hcur : t.core s.acting = t.cur := by rw [State.cur, hact]
  rw [hcur]
  refine ⟨?_, hcpl.trans h0.symm, hclock⟩
  rw [hk, writeMsr_evtSel]
  simp

/-- A disabled counter never takes the first branch of R148. -/
theorem countMode_ne_free {s : State} {info : EventInfo} {f : EvtCtl} (he : f.en = false) :
    countMode s info f ≠ .free := by
  by_cases hr : ReservedOn s.part info.select f
  · rw [countMode_freePrev he hr]
    decide
  · rw [countMode_specified hr (by simp [he])]
    decide

/-- With EN clear the increment is 0 (R141, R147). -/
theorem increment_of_disabled {f : EvtCtl} (he : f.en = false) (cpl : BitVec 2) (n : Occ) (prev : Bool) :
    increment f cpl n prev = 0 := by
  simp [increment, he]

@[simp] theorem sumMod_zero (ctr : Count48) : sumMod ctr 0 = ctr := by simp [sumMod]

/-- A tick leaves the register of a counter with EN clear as it was (R147), reserved or not. -/
theorem tickedAt_ctr_of_disabled {s : State} {c : CoreId} {i : CtrId} (d : Nat)
    (he : ((s.core c).counter i).sel.getLsbD 22 = false) : (tickedAt s c i d).ctr = ((s.core c).counter i).ctr := by
  have hmode : modeAt s c i ≠ .free := countMode_ne_free he
  rw [tickedAt, ticked_ctr]
  cases hm : modeAt s c i with
  | specified => rw [nextCtr, increment_of_disabled he, sumMod_zero]
  | free => exact absurd hm hmode
  | freePrev => rfl

/-- A specified counter takes the second branch of R148 under its own word. -/
theorem tickedAt_of_specified {s : State} {c : CoreId} {i : CtrId} (d : Nat) (h : modeAt s c i = .specified) :
    tickedAt s c i d = r148 (ctlOf ((s.core c).counter i).sel) (s.core c).cpl (sampleAt s c i).val (s.core c).clock
      ((s.core c).counter i) := by
  rw [tickedAt, h, ticked_specified]

/-- Settles O23: the tick reads the word that WRMSR has just stored. -/
theorem writeGovernsNextTick : Obligations.WriteGovernsNextTick := by
  intro s t i h hi
  obtain ⟨hk, hcpl, hclock⟩ := exec_wrmsr_evtSel_core h hi
  obtain ⟨u, hu, -, -, -, hticked, -⟩ := tick_spec s.acting t
  refine ⟨u, hu, fun he => ?held, fun hm => ⟨(sampleAt t s.acting i).val, ?count, ?specified⟩⟩
  case held => rw [hticked, tickedAt_ctr_of_disabled _ (by rw [hk]; exact he), hk]
  case count => exact Nat.le_of_lt_succ (sampleAt t s.acting i).isLt
  case specified => rw [hticked, tickedAt_of_specified _ hm, hk, hcpl, hclock]

end Sys2Proof.Machine

/-! The other directions of the encodings: the bytes and the words that decode to nothing, the words that are well formed,
and what a step makes of a decoded `mov` and a tick of four decoded words. -/

namespace Sys2Proof.Machine
open Sys2Proof.Claims

/-! ### The bytes and the words that do not decode (R87, R90) -/

/-- The access decoder takes two bytes off, which are the code of what it answers. -/
theorem decodeAccess_ok {bs rest : List Byte} {i : Instr} (h : decodeAccess bs = .ok (i, rest)) :
    ∃ op, bs = 0x0F :: op :: rest ∧ encode i = .bytes [0x0F, op] := by
  unfold decodeAccess at h
  split at h
  · cases h
  · split_ifs at h with hb
    subst hb
    split at h
    · cases h
    · split_ifs at h with h30 h32 h33 <;> cases h
      · exact ⟨_, rfl, h30 ▸ rfl⟩
      · exact ⟨_, rfl, h32 ▸ rfl⟩
      · exact ⟨_, rfl, h33 ▸ rfl⟩

/-- Bytes decode only when the access decoder leaves none of them over. -/
theorem decode_bytes_ok {bs : List Byte} {i : Instr} (h : decode (.bytes bs) = .ok i) :
    decodeAccess bs = .ok (i, []) := by
  simp only [decode] at h
  split at h
  · rename_i hd; cases h; exact hd
  · cases h
  · cases h

/-- Settles O46: the two bytes the access decoder takes off are all there are. -/
theorem encodeDecodeBytes : Obligations.EncodeDecodeBytes := by
  intro bs i h
  obtain ⟨op, rfl, he⟩ := decodeAccess_ok (decode_bytes_ok h)
  exact ⟨he, rfl⟩

/-- Settles O47: the event map and R87's list are complements, and the decoder rejects what the map leaves out. -/
theorem reservedEventSelectsRejected : Obligations.ReservedEventSelectsRejected := by
  intro w
  rw [ofNat_mod_eq_eventSelectOf]
  exact decodeSel_error_iff

/-! ### Well-formed words (R87, R88, R148) -/

/-- An event word is well formed on a part when R148 does not call it reserved there. -/
theorem wellFormed_iff {p : Part} {i : Instr} {info : EventInfo} {f : EvtCtl} (h : eventOf i = some (info, f)) :
    i.wellFormed p = true ↔ ¬ ReservedOn p info.select f := by
  rw [← reservedSel_iff, Bool.not_eq_true]
  simp [Instr.wellFormed, h, reservedSel, and_assoc]

/-- Where there is one core, R325 does not apply and only a reserved selection is not specified. -/
theorem countMode_specified_iff_of_one {s : State} {info : EventInfo} {f : EvtCtl} (h1 : s.part.numCores = .one) :
    countMode s info f = .specified ↔ ¬ ReservedOn s.part info.select f := by
  refine ⟨fun hm hr => ?reserved, fun hr => countMode_specified hr ?noConflict⟩
  case reserved =>
    cases he : f.en with
    | true => rw [countMode_free he (.inl hr)] at hm; cases hm
    | false => rw [countMode_freePrev he hr] at hm; cases hm
  case noConflict =>
    rintro ⟨-, h2, -⟩
    rw [h1] at h2
    cases h2

/-- Settles O50: on one core both sides say that R148 does not call the counter's word reserved. -/
theorem wellFormedWordsAreSpecified : Obligations.WellFormedWordsAreSpecified := by
  intro s c i ins hd h1
  obtain ⟨info, he, -⟩ := decodeSel_ok hd
  rw [wellFormed_iff he, Specified, modeAt, selectedEvent_ok hd he]
  exact (countMode_specified_iff_of_one (s := s.aimAt c i) h1).symm

/-! ### A `mov` of the instruction stream (R92) -/

/-- Appending a byte below moves what is there up by 8 bits. -/
theorem append_byte_toNat {n : Nat} (x : BitVec n) (b : Byte) : (x ++ b).toNat = x.toNat * 2 ^ 8 + b.toNat := by
  rw [BitVec.toNat_append, ← Nat.shiftLeft_add_eq_or_of_lt b.isLt, Nat.shiftLeft_eq]

/-- Four immediate bytes, least significant first, as the number they stand for. -/
theorem immediate_eq (b0 b1 b2 b3 : Byte) :
    b3 ++ b2 ++ b1 ++ b0 =
      BitVec.ofNat 32 (b0.toNat + 2 ^ 8 * b1.toNat + 2 ^ 16 * b2.toNat + 2 ^ 24 * b3.toNat) := by
  apply BitVec.eq_of_toNat_eq
  simp only [append_byte_toNat, BitVec.toNat_ofNat]
  omega

theorem movTarget_movOpcode (r : IfReg) : movTarget (movOpcode r) = some r := by cases r <;> rfl

/-- A `mov`'s opcode and four bytes are fetched as that `mov`. -/
theorem decodeStream_mov (r : IfReg) (b0 b1 b2 b3 : Byte) :
    decodeStream [movOpcode r, b0, b1, b2, b3] = .ok (.movImm r (b3 ++ b2 ++ b1 ++ b0)) := by
  simp [decodeStream, movTarget_movOpcode]

theorem advance_setReg_eq_afterMov (x : Core) (r : IfReg) (imm : Nat) :
    (x.setReg r (BitVec.ofNat 32 imm)).advance 5 = afterMov x r imm := by cases r <;> rfl

/-- Taking a turn leaves the bytes at a core's pc. -/
theorem window_nextTurn (s : State) (c : CoreId) : (nextTurn s).2.window c = s.window c := by
  obtain ⟨-, hc, hm⟩ := nextTurn_spec s
  simp only [State.window, hc, hm]

/-- Settles O29: the step is the `mov` that the five bytes are fetched as. -/
theorem stepRunsMov : Obligations.StepRunsMov := by
  intro s c b0 b1 b2 b3 r ht hr hw
  obtain ⟨-, hc, -⟩ := nextTurn_spec s
  have hfetch : decodeStream ((nextTurn s).2.window c) = .ok (.movImm r (b3 ++ b2 ++ b1 ++ b0)) := by
    rw [window_nextTurn, hw, decodeStream_mov]
  rw [step_instr_of_canRun ht hr]
  simp only [runInstr, hfetch, execMovImm, actFor_cur, hc, immediate_eq, advance_setReg_eq_afterMov, State.setCur,
    actFor_acting]

/-! ### A tick of four decoded words (R83, R130) -/

@[simp] theorem canTick_nextTurn (s : State) (c : CoreId) : canTick (nextTurn s).2 c = canTick s c := by
  obtain ⟨hp, hc, -⟩ := nextTurn_spec s
  simp only [canTick, hasCore_congr hp, hc]

/-- With the turn of `c`'s counter logic next, a step is `c`'s tick if it can tick. -/
theorem step_tick_of_canTick {s : State} {c : CoreId} (ht : (nextTurn s).1 = .tick c) (hk : canTick s c = true) :
    step s = tick c (nextTurn s).2 := by
  simp [step, ht, runTurn, hk]

/-- A counter whose word decodes takes its part of a tick by running the word, aimed at it. -/
theorem tickCounter_of_decodeSel {s : State} {c : CoreId} {i : CtrId} {w : Instr}
    (h : decodeSel ((s.core c).counter i).sel = .ok w) : tickCounter c i s = exec w (s.aimAt c i) := by
  simp only [tickCounter, h]

/-- The event-select words of core `c` decode to `w`. -/
def WordsDecode (s : State) (c : CoreId) (w : CtrId → Instr) : Prop :=
  ∀ i, decodeSel ((s.core c).counter i).sel = .ok (w i)

/-- No counter's part of a tick writes an event-select word (R131). -/
theorem tickCounter_sel {s t : State} {c : CoreId} {i : CtrId} (h : tickCounter c i s = .next t) (j : CtrId) :
    ((t.core c).counter j).sel = ((s.core c).counter j).sel := by
  obtain ⟨t', ht, -, -, -, -, -, -, hk, -⟩ := tickCounter_spec c i s
  rw [h] at ht
  cases ht
  rw [hk, counter_setCounter]
  split
  case isTrue hj => rw [hj, tickedAt, ticked_sel]
  case isFalse => rfl

/-- In a core whose words decode, a counter's part of a tick may be read as its word run, whatever follows reads the
words as they were. -/
theorem tickCounter_andThen_of_wordsDecode {s : State} {c : CoreId} {w : CtrId → Instr} {g g' : State → Res}
    (hw : WordsDecode s c w) (i : CtrId) (hg : ∀ t, WordsDecode t c w → g t = g' t) :
    (tickCounter c i s).andThen g = Res.andThen (exec (w i) (s.aimAt c i)) g' := by
  rw [← tickCounter_of_decodeSel (hw i)]
  cases hx : tickCounter c i s with
  | next t => exact hg t fun j => by rw [tickCounter_sel hx, hw j]
  | fault => rfl
  | refused => rfl

/-- A tick of a core whose words decode is its four words run in turn, and the tick's end. -/
theorem tick_of_wordsDecode {s : State} {c : CoreId} {w : CtrId → Instr} (hw : WordsDecode s c w) :
    tick c s =
      Res.andThen (exec (w .ctr0) (s.aimAt c .ctr0)) fun s0 =>
      Res.andThen (exec (w .ctr1) (s0.aimAt c .ctr1)) fun s1 =>
      Res.andThen (exec (w .ctr2) (s1.aimAt c .ctr2)) fun s2 =>
      Res.andThen (exec (w .ctr3) (s2.aimAt c .ctr3)) fun s3 => .next (endTick c s3) :=
  tickCounter_andThen_of_wordsDecode hw .ctr0 fun _ hw0 =>
    tickCounter_andThen_of_wordsDecode hw0 .ctr1 fun _ hw1 =>
      tickCounter_andThen_of_wordsDecode hw1 .ctr2 fun _ hw2 =>
        tickCounter_andThen_of_wordsDecode hw2 .ctr3 fun _ _ => rfl

/-- Settles O28: the turn is the tick, and each part of it runs a word that the parts before it have left. -/
theorem tickRunsDecodedWords : Obligations.TickRunsDecodedWords := by
  refine ⟨fun _ _ => step_tick_of_canTick, fun _ _ => rfl, fun _ _ _ _ => tickCounter_of_decodeSel,
    fun s c w ht hk hw => ?_⟩
  obtain ⟨-, hc, -⟩ := nextTurn_spec s
  have hw' : WordsDecode (nextTurn s).2 c w := fun i => by rw [hc, hw i]
  rw [step_tick_of_canTick ht hk, tick_of_wordsDecode hw']

end Sys2Proof.Machine

/-! A counter loaded for `N` increments, taken through ticks of one event each. -/

namespace Sys2Proof.Machine
open Sys2Proof.Claims

/-! ### Ticks that count one (R82, R136, R142, R144) -/

/-- The 48-bit two's complement of `N` is `N` below `2^48`, wrapping. -/
theorem preload_toNat {N : Nat} (h1 : 1 ≤ N) (hN : N ≤ 2 ^ 48) : (preload N).toNat + N = 2 ^ 48 := by
  simp only [preload, BitVec.toNat_neg, BitVec.toNat_ofNat]
  omega

theorem privOk_iff_passes {f : EvtCtl} {cpl : BitVec 2} : privOk f cpl = true ↔ Passes f cpl := by
  rw [privOk, Passes]
  split
  case isTrue h => simp only [h, true_and, ne_eq, not_true_eq_false, false_and, or_false]
  case isFalse h => simp only [h, false_and, ne_eq, not_false_eq_true, true_and, false_or]

/-- Enabled in level mode with CNT_MASK 0, a counter counts the events of a tick that the privilege filter passes. -/
theorem increment_of_level {f : EvtCtl} {cpl : BitVec 2} (he : f.en = true) (hl : f.e = false) (hm : f.cntMask = 0)
    (hp : Passes f cpl) (n : Occ) (prev : Bool) : increment f cpl n prev = n.val := by
  simp [increment, levelInc, he, hl, hm, privOk_iff_passes.2 hp]

/-- The ticks of `ns` each count one under `f`, whatever the edge detector holds. -/
def EachCountsOne (f : EvtCtl) (ns : List (BitVec 2 × Occ)) : Prop :=
  ∀ n ∈ ns, ∀ prev, increment f n.1 n.2 prev = 1

/-- A tick that counts one below the top goes on to the next value and requests nothing. -/
theorem ticked_of_no_overflow {f : EvtCtl} {cpl : BitVec 2} {n : Occ} {k : Counter} (t d : Nat)
    (hinc : increment f cpl n k.prev = 1) (hk : k.ctr.toNat + 1 < 2 ^ 48) :
    (k.ticked .specified f cpl n t d).ctr.toNat = k.ctr.toNat + 1 ∧
      (k.ticked .specified f cpl n t d).irqs = k.irqs := by
  have hov : overflows k.ctr 1 = false := by
    rw [← Bool.not_eq_true, overflows_iff]
    omega
  refine ⟨?_, by simp [requests, hinc, hov]⟩
  rw [ticked_ctr, nextCtr, hinc, sumMod, BitVec.toNat_ofNat, Nat.mod_eq_of_lt hk]

/-- A tick that counts one at the top leaves 0 and, with INT, makes its request. -/
theorem ticked_of_overflow {f : EvtCtl} {cpl : BitVec 2} {n : Occ} {k : Counter} (t d : Nat)
    (hinc : increment f cpl n k.prev = 1) (hi : f.int = true) (hk : k.ctr.toNat + 1 = 2 ^ 48) :
    (k.ticked .specified f cpl n t d).ctr = 0 ∧ (k.ticked .specified f cpl n t d).irqs = t :: k.irqs := by
  have hov : overflows k.ctr 1 = true := overflows_iff.2 hk.ge
  refine ⟨?_, by simp [requests, hinc, hi, hov]⟩
  rw [ticked_ctr, nextCtr, hinc, sumMod, hk]
  rfl

/-- A counter `N` below `2^48` requests nothing in fewer than `N` ticks of one, and at the `N`-th it requests and is 0. -/
theorem counted_to_overflow {f : EvtCtl} (hi : f.int = true) (ns : List (BitVec 2 × Occ)) (hns : EachCountsOne f ns)
    (t : Nat) (k : Counter) (N : Nat) (h1 : 1 ≤ N) (hN : k.ctr.toNat + N = 2 ^ 48) :
    (ns.length < N → (counted f t ns k).irqs = k.irqs) ∧
    (ns.length = N → (counted f t ns k).irqs = (t + N - 1) :: k.irqs ∧ (counted f t ns k).ctr = 0) := by
  induction ns generalizing t k N with
  | nil => exact ⟨fun _ => rfl, fun h => absurd h (Nat.ne_of_lt h1)⟩
  | cons n rest ih =>
    obtain ⟨hn, hrest⟩ := List.forall_mem_cons.1 hns
    rw [List.length_cons, counted]
    obtain rfl | hlt := Nat.eq_or_lt_of_le h1
    case inl =>
      obtain ⟨hctr, hirqs⟩ := ticked_of_overflow t 0 (hn k.prev) hi hN
      refine ⟨fun h => absurd h (by omega), fun h => ?_⟩
      obtain rfl : rest = [] := List.length_eq_zero_iff.1 (by omega)
      exact ⟨hirqs, hctr⟩
    case inr =>
      obtain ⟨hctr, hirqs⟩ := ticked_of_no_overflow t 0 (hn k.prev) (by omega)
      obtain ⟨hbefore, hat⟩ :=
        ih hrest (t + 1) (k.ticked .specified f n.1 n.2 t 0) (N - 1) (by omega) (by rw [hctr]; omega)
      rw [hirqs] at hbefore hat
      have htime : t + 1 + (N - 1) - 1 = t + N - 1 := by omega
      rw [htime] at hat
      exact ⟨fun h => hbefore (by omega), fun h => hat (by omega)⟩

/-- Settles O18: every tick counts one, and a counter loaded for `N` is `N` below `2^48`. -/
theorem preloadOverflowsAtNthIncrement : Obligations.PreloadOverflowsAtNthIncrement := by
  intro f t ns k N h1 hN he hl hi hm hctr hirqs hns
  have hone : EachCountsOne f ns := by
    intro n hn prev
    obtain ⟨hp, hn1⟩ := hns n hn
    rw [increment_of_level he hl hm hp, hn1]
    rfl
  have hload : k.ctr.toNat + N = 2 ^ 48 := by rw [hctr, preload_toNat h1 hN]
  rw [← hirqs]
  exact counted_to_overflow hi ns hone t k N h1 hload

end Sys2Proof.Machine

/-! RDPMC and RDMSR of one counter: what they share and where they part (R113). -/

namespace Sys2Proof.Machine
open Sys2Proof.Claims

/-- ECX is no part of a counter: naming another register there changes no count. -/
@[simp] theorem counter_withEcx (x : Core) (a : Reg) (i : CtrId) :
    ({ x with ecx := a } : Core).counter i = x.counter i := by
  cases i <;> rfl

/-- The EDX:EAX that `loaded` leaves depends on the count alone, not on the rest of the core. -/
theorem loaded_edxEax_eq (x y : Core) (k : Count48) :
    (loaded x k).edx = (loaded y k).edx ∧ (loaded x k).eax = (loaded y k).eax := ⟨rfl, rfl⟩

/-- Settles O4: both load the same count; RDPMC accepts PCE in place of CPL 0 and RDMSR does not. -/
theorem rdpmcAgreesWithRdmsr : Obligations.RdpmcAgreesWithRdmsr := by
  intro s i h0
  refine ⟨?sameLoad, fun l hl => ⟨?rdpmcCompletes, ?rdmsrFaults⟩⟩
  case sameLoad =>
    obtain ⟨rdpmcLoads, -⟩ := rdpmcMeaning (s.setCur { s.cur with ecx := ctrIndex i })
    obtain ⟨-, rdmsrLoads, -⟩ := rdmsrMeaning (s.setCur { s.cur with ecx := ctrMsr i })
    simp only [cur_setCur, counter_withEcx] at rdpmcLoads rdmsrLoads
    refine ⟨_, _, rdpmcLoads (.inl h0) i rfl, rdmsrLoads h0 i rfl, ?_⟩
    simp only [cur_setCur]
    exact loaded_edxEax_eq _ _ _
  case rdpmcCompletes =>
    obtain ⟨rdpmcLoads, -⟩ := rdpmcMeaning (s.setCur { s.cur with ecx := ctrIndex i, cpl := l, pce := true })
    rw [cur_setCur] at rdpmcLoads
    exact ⟨_, rdpmcLoads (.inr rfl) i rfl⟩
  case rdmsrFaults =>
    obtain ⟨-, -, rdmsrFaults, -⟩ := rdmsrMeaning (s.setCur { s.cur with ecx := ctrMsr i, cpl := l, pce := true })
    rw [cur_setCur, setCur_acting] at rdmsrFaults
    exact rdmsrFaults hl

end Sys2Proof.Machine

/-! Who moves a counter, its requests and its core's clock. -/

namespace Sys2Proof.Machine
open Sys2Proof.Claims

/-! ### The requests of a counter and the clock of its core (R133, R144, R310) -/

/-- A counter's requests stay as they are at a tick, or the tick adds its own. -/
theorem ticked_irqs_cases (k : Counter) (m : CountMode) (f : EvtCtl) (cpl : BitVec 2) (n : Occ) (t d : Nat) :
    (k.ticked m f cpl n t d).irqs = k.irqs ∨ f.int = true ∧ (k.ticked m f cpl n t d).irqs = t :: k.irqs := by
  rw [ticked_irqs]
  split
  case isTrue h =>
    refine .inr ⟨?_, rfl⟩
    cases m with
    | specified | free => exact (Bool.and_eq_true_iff.1 h).1
    | freePrev => cases h
  case isFalse => exact .inl rfl

/-- A request of the tick that ends goes before all earlier ones. -/
theorem requestsOrdered_ticked {k : Counter} {t : Nat} (h : requestsOrdered t k) (m : CountMode) (f : EvtCtl)
    (cpl : BitVec 2) (n : Occ) (d : Nat) : requestsOrdered (t + 1) (k.ticked m f cpl n t d) := by
  obtain ⟨hfalling, hover⟩ := h
  rw [requestsOrdered]
  obtain e | ⟨-, e⟩ := ticked_irqs_cases k m f cpl n t d
  · rw [e]
    exact ⟨hfalling, fun u hu => Nat.lt_succ_of_lt (hover u hu)⟩
  · rw [e, List.pairwise_cons, List.forall_mem_cons]
    exact ⟨⟨hover, hfalling⟩, Nat.lt_succ_self t, fun u hu => Nat.lt_succ_of_lt (hover u hu)⟩

theorem tick_counter {c : CoreId} {s t : State} (h : tick c s = .next t) (i : CtrId) :
    (t.core c).counter i = tickedAt s c i (drawAt s c i) := by
  obtain ⟨t', ht, -, -, -, hk, -⟩ := tick_spec c s
  rw [h] at ht
  cases ht
  exact hk i

theorem tick_clock {c : CoreId} {s t : State} (h : tick c s = .next t) :
    (t.core c).clock = (s.core c).clock + 1 := by
  obtain ⟨t', ht, -, -, -, -, hclock, -⟩ := tick_spec c s
  rw [h] at ht
  cases ht
  exact hclock

/-- No step of an instruction stream moves a clock. -/
theorem instrEffect_clock {c c' : CoreId} {s t : State} (h : InstrEffect c s t) :
    (t.core c').clock = (s.core c').clock := by
  by_cases hc : c' = c
  case neg => rw [instrEffect_other h hc]
  subst hc
  cases h with
  | waits => rfl
  | completes i _ _ hi hx =>
    obtain ⟨-, -, -, -, hact, -, hclock, -⟩ := exec_access_frame hi hx
    simpa [State.cur, hact] using hclock
  | raises => simp [State.recordGP]
  | moves => simp [execMovImm]

@[simp] theorem applyEnv_clock (m : EnvMove) (s : State) (c : CoreId) :
    ((applyEnv m s).core c).clock = (s.core c).clock := by
  obtain ⟨a, b, e⟩ | ⟨c', f, e, hf⟩ := applyEnv_cases m s
  · simp [e]
  · rw [e, core_envCore]
    split
    case isTrue h => rw [(hf _).1, h.1]
    case isFalse => rfl

/-- Everything one turn can do to a clock: nothing, unless it is a tick of the clock's core. -/
theorem turnEffect_clock {s : State} {u : Turn} {t : State} (h : TurnEffect s u t) (c : CoreId) :
    (t.core c).clock = (s.core c).clock ∨ u = .tick c ∧ canTick s c = true ∧ tick c s = .next t := by
  cases h with
  | stalled => exact .inl rfl
  | stopped => exact .inl rfl
  | instr _ _ _ h => exact .inl (instrEffect_clock h)
  | tick c' _ hk h =>
    by_cases hc : c = c'
    · subst hc; exact .inr ⟨rfl, hk, h⟩
    · left; rw [tick_other h hc]
  | env m => exact .inl (applyEnv_clock m s c)

/-- The turn of a counter logic that can tick is its tick. -/
theorem turnEffect_tick {s t : State} {c : CoreId} (h : TurnEffect s (.tick c) t) (hk : canTick s c = true) :
    tick c s = .next t := by
  cases h with
  | stopped _ hk' => simp [hk] at hk'
  | tick _ _ _ h => exact h

/-- One turn keeps a core's requests in order: only a tick makes one, and it ends with the clock past it. -/
theorem turnEffect_requestsOrdered {s : State} {u : Turn} {t : State} (h : TurnEffect s u t) (c : CoreId) (i : CtrId)
    (hs : requestsOrdered (s.core c).clock ((s.core c).counter i)) :
    requestsOrdered (t.core c).clock ((t.core c).counter i) := by
  obtain hclock | ⟨-, -, htick⟩ := turnEffect_clock h c
  · have hirqs : ((t.core c).counter i).irqs = ((s.core c).counter i).irqs := by
      obtain e | ⟨-, -, -, -, r, -, e⟩ | ⟨rfl, hk, -⟩ := turn_counter h c i
      · rw [e]
      · rw [e, counter_writeMsr]
      · have := tick_clock (turnEffect_tick h hk)
        omega
    rw [requestsOrdered, hclock, hirqs]
    exact hs
  · rw [tick_clock htick, tick_counter htick]
    exact requestsOrdered_ticked hs _ _ _ _ _

/-- Settles O40: one turn keeps each counter's requests in order. -/
theorem stepKeepsRequestsOrdered : Obligations.StepKeepsRequestsOrdered := by
  intro s t hs h c i
  obtain ⟨-, hc, -⟩ := nextTurn_spec s
  have hci := hs c i
  rw [← hc] at hci
  exact turnEffect_requestsOrdered (step_next h) c i hci

/-! ### Halted cores and the writers of the PMU registers (R131, R153, R330) -/

theorem not_canRun_of_halted {s : State} {c : CoreId} (h : (s.core c).halted = true) : canRun s c = false := by
  simp [canRun, h]

theorem canTick_halted {s : State} {c : CoreId} (h : canTick s c = true) : (s.core c).halted = false := by
  simp only [canTick, Bool.and_eq_true, Bool.not_eq_true'] at h
  exact h.2

/-- Settles O34: a halted core neither runs nor ticks, and no other turn touches its PMU or its clock. -/
theorem haltedCoreKeepsPmu : Obligations.HaltedCoreKeepsPmu := by
  intro s t c h hhalt
  obtain ⟨-, hc, -⟩ := nextTurn_spec s
  rw [← hc] at hhalt ⊢
  have hrun : canRun (nextTurn s).2 c ≠ true := by simp [not_canRun_of_halted hhalt]
  have htick : canTick (nextTurn s).2 c ≠ true := fun hk => by simp [canTick_halted hk] at hhalt
  refine ⟨fun i => ?pmu, ?clock⟩
  case pmu =>
    obtain e | ⟨-, hr, -⟩ | ⟨-, hk, -⟩ := turn_counter (step_next h) c i
    · exact e
    · exact absurd hr hrun
    · exact absurd hk htick
  case clock =>
    obtain e | ⟨-, hk, -⟩ := turnEffect_clock (step_next h) c
    · exact e
    · exact absurd hk htick

/-- Settles O32: WRMSR writes only the register that ECX names, and a tick only the count, and that only with EN set. -/
theorem pmuRegisterWriters : Obligations.PmuRegisterWriters := by
  intro s t c i h
  obtain ⟨-, hc, -⟩ := nextTurn_spec s
  simp only [← hc, ← fetches_nextTurn (s := s)]
  obtain e | ⟨hu, -, hf, h0, r, hr, e⟩ | ⟨hu, hk, e⟩ := turn_counter (step_next h) c i
  case inl =>
    rw [e]
    exact ⟨fun hne => absurd rfl hne, fun hne => absurd rfl hne⟩
  case inr.inl =>
    simp only [e, counter_writeMsr, edxEax_setWidth32]
    refine ⟨fun hne => ?evtSel, fun hne => .inl ?ctr⟩
    case evtSel =>
      obtain rfl : r = .evtSel i := by by_contra hri; simp [hri] at hne
      exact ⟨hu, hf, h0, hr.trans (evtSelMsr_eq i).symm, if_pos rfl⟩
    case ctr =>
      obtain rfl : r = .ctr i := by by_contra hri; simp [hri] at hne
      exact ⟨hu, hf, h0, hr.trans (ctrMsr_eq i).symm⟩
  case inr.inr =>
    rw [e]
    refine ⟨fun hne => absurd (ticked_sel ..) hne, fun hne => .inr ⟨hu, canTick_halted hk, ?enabled⟩⟩
    case enabled =>
      by_contra hen
      exact hne (tickedAt_ctr_of_disabled _ (Bool.eq_false_of_not_eq_true hen))

end Sys2Proof.Machine

/-! What a tick makes of a counter: the increment and its sum over ticks, each mode of R148, and counters with the same
word. -/

namespace Sys2Proof.Machine
open Sys2Proof.Claims

/-! ### The increment (R134 to R141) -/

/-- With CNT_MASK above 0 the level increment tells whether the count reaches it, or with INV whether it does not. -/
theorem levelInc_of_mask {f : EvtCtl} (hm : f.cntMask.toNat ≠ 0) (n : Occ) :
    levelInc f n = (if f.inv then decide (n.val < f.cntMask.toNat) else decide (f.cntMask.toNat ≤ n.val)).toNat := by
  rw [levelInc, if_neg hm, condition, if_neg hm]

/-- Settles O14: CNT_MASK is compared with each count; above 3 it is reserved. -/
theorem levelIncrementTable : Obligations.LevelIncrementTable := by
  refine ⟨fun f n hm => if_pos hm, fun f hi => ⟨?_, ?_, ?_⟩, fun f hi => ⟨?_, ?_, ?_⟩, fun p es f hm => ?reserved⟩
  case reserved => exact reservedSel_iff.2 (.inl hm)
  all_goals
    intro hm
    have hne : f.cntMask.toNat ≠ 0 := by rw [hm]; decide
    simp only [List.map, levelInc_of_mask hne, hi, hm]
    rfl

/-- In edge mode an enabled counter is incremented by one where the condition has come to hold and the filter passes. -/
theorem increment_of_edge {f : EvtCtl} (he : f.en = true) (hE : f.e = true) (cpl : BitVec 2) (n : Occ) (prev : Bool) :
    increment f cpl n prev = if condition f n = true ∧ prev = false ∧ privOk f cpl = true then 1 else 0 := by
  have hedge : edgeInc f n prev = if condition f n = true ∧ prev = false then 1 else 0 := by
    simp [edgeInc, Bool.toNat, Bool.cond_eq_ite]
  cases hp : privOk f cpl with
  | false => simp [increment, hp]
  | true => simp [increment, he, hE, hp, hedge]

theorem levelInc_le (f : EvtCtl) (n : Occ) : levelInc f n ≤ 3 := by
  have hn := n.isLt
  have hb := Bool.toNat_le (condition f n)
  rw [levelInc]
  split <;> omega

theorem increment_le (f : EvtCtl) (cpl : BitVec 2) (n : Occ) (prev : Bool) : increment f cpl n prev ≤ 3 := by
  have hl := levelInc_le f n
  have he : edgeInc f n prev ≤ 1 := Bool.toNat_le _
  rw [increment]
  split_ifs <;> omega

theorem sumMod_toNat (ctr : Count48) (inc : Nat) : (sumMod ctr inc).toNat = (ctr.toNat + inc) % 2 ^ 48 :=
  BitVec.toNat_ofNat ..

/-- Adding at most 3, a counter falls below its old value exactly when the sum carries out of bit 47 (R142, D9). -/
theorem sumMod_lt_iff_overflows {ctr : Count48} {inc : Nat} (h : inc ≤ 3) :
    (sumMod ctr inc).toNat < ctr.toNat ↔ overflows ctr inc = true := by
  have := ctr.isLt
  rw [sumMod_toNat, overflows_iff]
  omega

/-! ### Runs of ticks in the specified mode (R138, R139, R141) -/

/-- Settles O15: each tick adds its increment and wraps, and hands its condition to the next as the last sample. -/
theorem countIsSumOfIncrements : Obligations.CountIsSumOfIncrements := by
  intro f t ns k
  induction ns generalizing t k with
  | nil => exact ⟨(Nat.mod_eq_of_lt k.ctr.isLt).symm, rfl⟩
  | cons n rest ih =>
    obtain ⟨hctr, hsel⟩ := ih (t + 1) (k.ticked .specified f n.1 n.2 t 0)
    refine ⟨?_, hsel⟩
    rw [counted, hctr, ticked_ctr, nextCtr, sumMod_toNat, Nat.mod_add_mod, Nat.add_assoc, ticked_prev, nextPrev,
      incrementSum]

/-- In edge mode the increments of an enabled counter are its condition's rising edges that the filter lets through. -/
theorem incrementSum_eq_risingEdges {f : EvtCtl} (he : f.en = true) (hE : f.e = true) (ns : List (BitVec 2 × Occ))
    (prev : Bool) : incrementSum f prev ns = risingEdges f prev ns := by
  induction ns generalizing prev with
  | nil => rfl
  | cons n rest ih =>
    simp only [incrementSum, risingEdges, ih, increment_of_edge he hE, privOk_iff_passes, Passes]

/-- Settles O16: the sum of the increments of O15 is the number of rising edges. -/
theorem edgeModeCountsRisingEdges : Obligations.EdgeModeCountsRisingEdges := by
  intro f t ns k he hE
  obtain ⟨hctr, -⟩ := countIsSumOfIncrements f t ns k
  rw [hctr, incrementSum_eq_risingEdges he hE]

/-- Settles O19: the new condition rises against the old sample, but a disabled tick has sampled it before. -/
theorem protocolAvoidsFalseEdge : Obligations.ProtocolAvoidsFalseEdge := by
  intro f cpl cpl' n n' t k he hE hn hn' hprev
  refine ⟨fun hp => ?falseEdge, ?protocol⟩
  case falseEdge =>
    have hinc : increment f cpl n k.prev = 1 := by
      rw [increment_of_edge he hE, if_pos ⟨hn, hprev, privOk_iff_passes.2 hp⟩]
    rw [ticked_ctr, nextCtr, hinc]
    exact BitVec.eq_of_toNat_eq (sumMod_toNat _ _)
  case protocol =>
    have hsample : condition { f with en := false } n = true := hn
    have hinc : increment f cpl' n' true = 0 := by
      rw [increment_of_edge he hE, if_neg (by simp)]
    rw [ticked_ctr, nextCtr, ticked_prev, nextPrev, hsample, hinc, sumMod_zero, ticked_ctr, nextCtr,
      increment_of_disabled rfl, sumMod_zero]

/-! ### One tick, mode by mode (R130, R144, R147, R148, R150) -/

theorem sampleAt_le (s : State) (c : CoreId) (i : CtrId) : (sampleAt s c i).val ≤ 3 :=
  Nat.le_of_lt_succ (sampleAt s c i).isLt

/-- An unspecified counter that is enabled takes the first branch of R148. -/
theorem tickedAt_of_free {s : State} {c : CoreId} {i : CtrId} (d : Nat) (h : modeAt s c i = .free) :
    tickedAt s c i d =
      r148Free (ctlOf ((s.core c).counter i).sel) (s.core c).clock d ((s.core c).counter i) := by
  rw [tickedAt, h, ticked_free]

theorem tickedAt_of_freePrev {s : State} {c : CoreId} {i : CtrId} (d : Nat) (h : modeAt s c i = .freePrev) :
    tickedAt s c i d = r148Held d ((s.core c).counter i) := by
  rw [tickedAt, h, ticked_freePrev]

/-- Settles O20: a tick always goes on, and each counter takes the branch of R148 that its mode names. -/
theorem tickStepsEveryCounterOnce : Obligations.TickStepsEveryCounterOnce := by
  intro s c
  obtain ⟨t, ht, hpart, hmem, -, hk, hclock, hwait, hsame, hother⟩ := tick_spec c s
  refine ⟨t, ht, fun i => ⟨drawAt s c i, (sampleAt s c i).val, ?_⟩, hclock, hwait, hsame, hother _ (other_ne c), hmem,
    hpart⟩
  rw [hk]
  exact ⟨fun hm => ⟨sampleAt_le s c i, tickedAt_of_specified _ hm⟩, tickedAt_of_free _, tickedAt_of_freePrev _⟩

/-- With EN clear nothing of a counter but `Prev` moves at a tick, in either mode it can then have (R147). -/
theorem ticked_of_disabled {f : EvtCtl} {m : CountMode} (he : f.en = false) (hm : m ≠ .free) (k : Counter)
    (cpl : BitVec 2) (n : Occ) (t d : Nat) : k.ticked m f cpl n t d = { k with prev := nextPrev m f n d } := by
  cases m with
  | specified =>
    have hov : overflows k.ctr 0 = false := decide_eq_false k.ctr.isLt.not_ge
    have hpin : pinToggles f k.ctr 0 = false := by simp [pinToggles, hov]
    simp [Counter.ticked, nextCtr, nextPin, requests, increment_of_disabled he, hov, hpin]
  | free => exact absurd rfl hm
  | freePrev => rfl

/-- Settles O21: a disabled counter is specified with increment 0 or held, never free. -/
theorem disabledCounterHolds : Obligations.DisabledCounterHolds := by
  intro s c i he
  obtain ⟨t, ht, -, -, -, hk, -⟩ := tick_spec c s
  have hmode : modeAt s c i ≠ .free := countMode_ne_free he
  refine ⟨t, ht, ?_⟩
  rw [hk, tickedAt, ticked_of_disabled he hmode]

/-- Settles O22: the increment is at most 3, so the counter falls exactly when it overflows. -/
theorem overflowRequestsInterrupt : Obligations.OverflowRequestsInterrupt := by
  intro s c i hm
  obtain ⟨t, ht, -, -, -, hk, -⟩ := tick_spec c s
  refine ⟨t, ht, ?_⟩
  rw [hk, tickedAt, hm, ticked_ctr, ticked_irqs, nextCtr, requests, ← Nat.not_lt,
    sumMod_lt_iff_overflows (increment_le ..), Bool.not_eq_true]
  refine ⟨fun hov hint => ?request, fun h => ?none⟩
  case request => exact if_pos (Bool.and_eq_true_iff.2 ⟨hint, hov⟩)
  case none => exact if_neg (by rw [Bool.not_eq_true, Bool.and_eq_false_iff]; exact h.symm)

/-- Settles O24: in no mode does a tick write the word or request without INT, and it steps the counters apart. -/
theorem unspecifiedCounterIsConfined : Obligations.UnspecifiedCounterIsConfined := by
  intro s t c i ht _
  simp only [tick_counter ht]
  exact ⟨ticked_sel .., ticked_irqs_cases .., fun j _ hm =>
    ⟨(sampleAt s c j).val, sampleAt_le s c j, tickedAt_of_specified _ hm⟩⟩

/-! ### Counters with the same word (R133, R151) -/

/-- The count that a counter gets depends on its word, not on which counter of the core it is. -/
theorem sampleAt_eq_of_sel_eq {s : State} {c : CoreId} {i j : CtrId}
    (h : ((s.core c).counter i).sel = ((s.core c).counter j).sel) : sampleAt s c i = sampleAt s c j := by
  simp only [sampleAt, State.sample, aimAt_part, aimAt_acting, aimAt_cur, h]

theorem ticked_pin_eq_self_iff {k : Counter} {f : EvtCtl} {cpl : BitVec 2} {n : Occ} {t d : Nat} :
    (k.ticked .specified f cpl n t d).pin = k.pin ↔ pinToggles f k.ctr (increment f cpl n k.prev) = false := by
  rw [ticked_pin, nextPin]
  cases k.pin <;> simp

theorem ticked_irqs_eq_self_iff {k : Counter} {m : CountMode} {f : EvtCtl} {cpl : BitVec 2} {n : Occ} {t d : Nat} :
    (k.ticked m f cpl n t d).irqs = k.irqs ↔ requests m f cpl n d k = false := by
  rw [ticked_irqs]
  cases requests m f cpl n d k <;> simp

/-- Settles O25: all that a specified counter's tick reads is the same for the two. -/
theorem sameWordCountsAlike : Obligations.SameWordCountsAlike := by
  intro s c i j hi hj hsel hctr hprev
  obtain ⟨t, ht, -, -, -, hk, -⟩ := tick_spec c s
  refine ⟨t, ht, ?_⟩
  simp only [hk, tickedAt, hi, hj, sampleAt_eq_of_sel_eq hsel, hsel, ticked_pin_eq_self_iff, ticked_irqs_eq_self_iff,
    ticked_ctr, ticked_prev, nextCtr, nextPrev, requests, hctr, hprev, and_self]

end Sys2Proof.Machine

/-! The event words of the floating-point unit, the load/store unit and the data cache: what the catalogue says of an event
is the rule that the statements give it. -/

namespace Sys2Proof.Machine
open Sys2Proof.Claims

/-! ### The rule that a catalogue entry gives its event (R200) -/

/-- The event's rule in the statements' vocabulary: its EVENT_SELECT, its UNIT_MASK bits on each revision, its first
revision and its conditions, as the catalogue has them. -/
def EventInfo.rule (info : EventInfo) : EventRule where
  es := info.select
  bits := definedOn info.pairs
  first := info.minRev
  isCycles := isCondition info

/-- The default event set defines each event of the event map by the event's own catalogue entry (R7, R86). -/
theorem specEventSet_find?_of_eventOf {i : Instr} {info : EventInfo} {f : EvtCtl} (h : eventOf i = some (info, f)) :
    specEventSet.find? (fun e => e.select == info.select) = some info.pairs := by
  cases i <;> simp only [eventOf, reduceCtorEq, Option.some.injEq, Prod.mk.injEq] at h <;>
    obtain ⟨rfl, rfl⟩ := h <;> rfl

/-- The words of an event run R148 by the rule of the event's catalogue entry. -/
theorem runs_rule {mk : EvtCtl → Instr} {info : EventInfo} (hof : ∀ f, eventOf (mk f) = some (info, f)) :
    Runs mk info.rule := by
  refine ⟨⟨info.pairs, specEventSet_find?_of_eventOf (hof (ctlOf 0)), rfl, fun _ => rfl⟩, fun f s => ?_⟩
  rw [exec_event (hof f)]
  exact countEvent_stepsBy info f s

/-- An event with no UNIT_MASK table has no defined bits to be asked for. -/
theorem definedOn_pairs_of_table_eq_nil {info : EventInfo} (h : info.table = []) :
    definedOn info.pairs = fun _ => none := by
  funext rev
  rw [definedOn, if_pos]
  rw [EventInfo.pairs, h, List.map_nil]

/-- Rows that the first revision has, every revision has (R297). -/
theorem definedBits_of_preD {e : DefinedEvent} (h : ∀ u ∈ e.bits, u.2 = .preD) (rev : Rev) :
    definedBits rev e = definedBits .preD e := by
  refine List.foldr_ext _ _ _ fun u hu acc => ?_
  rw [h u hu]
  rfl

/-- A table whose rows the first revision has defines the same bits on every revision. -/
theorem definedOn_pairs_of_preD {info : EventInfo} (hne : info.table ≠ []) (h : ∀ u ∈ info.table, u.minRev = .preD) :
    definedOn info.pairs = fun _ => some (definedBits .preD info.pairs) := by
  have hbits : info.pairs.bits ≠ [] := by simpa [EventInfo.pairs] using hne
  have hrows : ∀ u ∈ info.pairs.bits, u.2 = .preD := by simpa [EventInfo.pairs] using h
  funext rev
  rw [definedOn_eq, if_neg hbits, definedBits_of_preD hrows]

/-- The words of an event with no table whose count is no condition run R148. -/
theorem runs_plain {mk : EvtCtl → Instr} (info : EventInfo) (hof : ∀ f, eventOf (mk f) = some (info, f))
    (hrev : info.minRev = .preD) (htable : info.table = []) (hkind : ∀ um, isCondition info um = false) :
    Runs mk (plain info.select) := by
  have hrule : info.rule = plain info.select := by
    rw [EventInfo.rule, plain, definedOn_pairs_of_table_eq_nil htable, hrev, funext hkind]
  exact hrule ▸ runs_rule hof

/-- The words of an event of cycles with no table run R148. -/
theorem runs_cycles {mk : EvtCtl → Instr} (info : EventInfo) (hof : ∀ f, eventOf (mk f) = some (info, f))
    (hrev : info.minRev = .preD) (htable : info.table = []) (hkind : ∀ um, isCondition info um = true) :
    Runs mk (cycles info.select) := by
  have hrule : info.rule = cycles info.select := by
    rw [EventInfo.rule, cycles, definedOn_pairs_of_table_eq_nil htable, hrev, funext hkind]
  exact hrule ▸ runs_rule hof

/-- The words of an event whose table every revision has, and whose count is no condition, run R148. -/
theorem runs_table {mk : EvtCtl → Instr} (info : EventInfo) (hof : ∀ f, eventOf (mk f) = some (info, f))
    (hrev : info.minRev = .preD) (hne : info.table ≠ []) (hrows : ∀ u ∈ info.table, u.minRev = .preD)
    (hkind : ∀ um, isCondition info um = false) :
    Runs mk (table info.select (definedBits .preD info.pairs)) := by
  have hrule : info.rule = table info.select (definedBits .preD info.pairs) := by
    rw [EventInfo.rule, table, definedOn_pairs_of_preD hne hrows, hrev, funext hkind]
  exact hrule ▸ runs_rule hof

/-! ### The statements about the event words (R201 to R222) -/

/-- Settles O6: each word runs the rule of its catalogue entry, which is the one stated (R201 to R203). -/
theorem fpuEventsRun : Obligations.FpuEventsRun :=
  ⟨runs_table evt00 (fun _ => rfl) rfl (by decide) (by decide) fun _ => rfl,
    runs_cycles evt01 (fun _ => rfl) rfl rfl fun _ => rfl,
    runs_plain evt02 (fun _ => rfl) rfl rfl fun _ => rfl⟩

/-- Event 24h counts conditions for two of its masks (R208). -/
theorem rule_evt24 :
    evt24.rule = ⟨0x24, fun _ => some 0x07, .preD, fun um => um == 0x02 || um == 0x04⟩ := by
  have hbits : definedOn evt24.pairs = fun _ => some 0x07 := definedOn_pairs_of_preD (by decide) (by decide)
  have hkind : isCondition evt24 = fun um => um == 0x02 || um == 0x04 := by
    funext um
    simp only [isCondition, evt24, List.contains_cons, List.contains_nil, Bool.or_false]
  rw [EventInfo.rule, hbits, hkind]
  rfl

/-- Settles O7: as O6, with the sub-events of 24h that measure a condition (R204 to R209). -/
theorem loadStoreEventsRun : Obligations.LoadStoreEventsRun :=
  ⟨runs_table evt20 (fun _ => rfl) rfl (by decide) (by decide) fun _ => rfl,
    runs_plain evt21 (fun _ => rfl) rfl rfl fun _ => rfl,
    runs_plain evt22 (fun _ => rfl) rfl rfl fun _ => rfl,
    runs_cycles evt23 (fun _ => rfl) rfl rfl fun _ => rfl,
    rule_evt24 ▸ runs_rule fun _ => rfl,
    runs_table evt65 (fun _ => rfl) rfl (by decide) (by decide) fun _ => rfl⟩

/-- Settles O8: as O6; 48h and 49h, whose kind the source does not state, count as occurrences (R210 to R222). -/
theorem dataCacheEventsRun : Obligations.DataCacheEventsRun :=
  ⟨runs_plain evt40 (fun _ => rfl) rfl rfl fun _ => rfl,
    runs_plain evt41 (fun _ => rfl) rfl rfl fun _ => rfl,
    runs_table evt42 (fun _ => rfl) rfl (by decide) (by decide) fun _ => rfl,
    runs_table evt43 (fun _ => rfl) rfl (by decide) (by decide) fun _ => rfl,
    runs_table evt44 (fun _ => rfl) rfl (by decide) (by decide) fun _ => rfl,
    runs_plain evt45 (fun _ => rfl) rfl rfl fun _ => rfl,
    runs_plain evt46 (fun _ => rfl) rfl rfl fun _ => rfl,
    runs_plain evt47 (fun _ => rfl) rfl rfl fun _ => rfl,
    runs_plain evt48 (fun _ => rfl) rfl rfl fun _ => rfl,
    runs_plain evt49 (fun _ => rfl) rfl rfl fun _ => rfl,
    runs_table evt4A (fun _ => rfl) rfl (by decide) (by decide) fun _ => rfl,
    runs_table evt4B (fun _ => rfl) rfl (by decide) (by decide) fun _ => rfl,
    runs_table evt4C (fun _ => rfl) rfl (by decide) (by decide) fun _ => rfl⟩

end Sys2Proof.Machine

/-! The event words of the L2 cache and system interface, the instruction cache and the execution unit, each by the
catalogue entry of its event. -/

namespace Sys2Proof.Machine
open Sys2Proof.Claims

/-! ### The statements about the event words (R231 to R281) -/

/-- Settles O9: each word runs the rule of its catalogue entry, whose table every revision has (R231 to R236). -/
theorem l2AndSystemEventsRun : Obligations.L2AndSystemEventsRun :=
  ⟨runs_table evt67 (fun _ => rfl) rfl (by decide) (by decide) fun _ => rfl,
    runs_table evt6C (fun _ => rfl) rfl (by decide) (by decide) fun _ => rfl,
    runs_table evt6D (fun _ => rfl) rfl (by decide) (by decide) fun _ => rfl,
    runs_table evt7D (fun _ => rfl) rfl (by decide) (by decide) fun _ => rfl,
    runs_table evt7E (fun _ => rfl) rfl (by decide) (by decide) fun _ => rfl,
    runs_table evt7F (fun _ => rfl) rfl (by decide) (by decide) fun _ => rfl⟩

/-- Settles O10: as O9, with no table; only 87h counts cycles (R237 to R246). -/
theorem instructionCacheEventsRun : Obligations.InstructionCacheEventsRun :=
  ⟨runs_plain evt80 (fun _ => rfl) rfl rfl fun _ => rfl,
    runs_plain evt81 (fun _ => rfl) rfl rfl fun _ => rfl,
    runs_plain evt82 (fun _ => rfl) rfl rfl fun _ => rfl,
    runs_plain evt83 (fun _ => rfl) rfl rfl fun _ => rfl,
    runs_plain evt84 (fun _ => rfl) rfl rfl fun _ => rfl,
    runs_plain evt85 (fun _ => rfl) rfl rfl fun _ => rfl,
    runs_plain evt86 (fun _ => rfl) rfl rfl fun _ => rfl,
    runs_cycles evt87 (fun _ => rfl) rfl rfl fun _ => rfl,
    runs_plain evt88 (fun _ => rfl) rfl rfl fun _ => rfl,
    runs_plain evt89 (fun _ => rfl) rfl rfl fun _ => rfl⟩

/-- Settles O11: as O9; 76h, CDh, CEh and D0h to DAh count cycles, and CBh, CCh and DBh have a table (R247 to R281). -/
theorem executionUnitEventsRun : Obligations.ExecutionUnitEventsRun :=
  ⟨runs_plain evt26 (fun _ => rfl) rfl rfl fun _ => rfl,
    runs_plain evt27 (fun _ => rfl) rfl rfl fun _ => rfl,
    runs_cycles evt76 (fun _ => rfl) rfl rfl fun _ => rfl,
    runs_plain evtC0 (fun _ => rfl) rfl rfl fun _ => rfl,
    runs_plain evtC1 (fun _ => rfl) rfl rfl fun _ => rfl,
    runs_plain evtC2 (fun _ => rfl) rfl rfl fun _ => rfl,
    runs_plain evtC3 (fun _ => rfl) rfl rfl fun _ => rfl,
    runs_plain evtC4 (fun _ => rfl) rfl rfl fun _ => rfl,
    runs_plain evtC5 (fun _ => rfl) rfl rfl fun _ => rfl,
    runs_plain evtC6 (fun _ => rfl) rfl rfl fun _ => rfl,
    runs_plain evtC7 (fun _ => rfl) rfl rfl fun _ => rfl,
    runs_plain evtC8 (fun _ => rfl) rfl rfl fun _ => rfl,
    runs_plain evtC9 (fun _ => rfl) rfl rfl fun _ => rfl,
    runs_plain evtCA (fun _ => rfl) rfl rfl fun _ => rfl,
    runs_table evtCB (fun _ => rfl) rfl (by decide) (by decide) fun _ => rfl,
    runs_table evtCC (fun _ => rfl) rfl (by decide) (by decide) fun _ => rfl,
    runs_cycles evtCD (fun _ => rfl) rfl rfl fun _ => rfl,
    runs_cycles evtCE (fun _ => rfl) rfl rfl fun _ => rfl,
    runs_plain evtCF (fun _ => rfl) rfl rfl fun _ => rfl,
    runs_cycles evtD0 (fun _ => rfl) rfl rfl fun _ => rfl,
    runs_cycles evtD1 (fun _ => rfl) rfl rfl fun _ => rfl,
    runs_cycles evtD2 (fun _ => rfl) rfl rfl fun _ => rfl,
    runs_cycles evtD3 (fun _ => rfl) rfl rfl fun _ => rfl,
    runs_cycles evtD4 (fun _ => rfl) rfl rfl fun _ => rfl,
    runs_cycles evtD5 (fun _ => rfl) rfl rfl fun _ => rfl,
    runs_cycles evtD6 (fun _ => rfl) rfl rfl fun _ => rfl,
    runs_cycles evtD7 (fun _ => rfl) rfl rfl fun _ => rfl,
    runs_cycles evtD8 (fun _ => rfl) rfl rfl fun _ => rfl,
    runs_cycles evtD9 (fun _ => rfl) rfl rfl fun _ => rfl,
    runs_cycles evtDA (fun _ => rfl) rfl rfl fun _ => rfl,
    runs_table evtDB (fun _ => rfl) rfl (by decide) (by decide) fun _ => rfl,
    runs_plain evtDC (fun _ => rfl) rfl rfl fun _ => rfl,
    runs_plain evtDD (fun _ => rfl) rfl rfl fun _ => rfl,
    runs_plain evtDE (fun _ => rfl) rfl rfl fun _ => rfl,
    runs_plain evtDF (fun _ => rfl) rfl rfl fun _ => rfl⟩

end Sys2Proof.Machine

/-! The event words of the Northbridge, which are those of the memory controller and of the HyperTransport interface, some
of them with rows that only later revisions have. -/

namespace Sys2Proof.Machine
open Sys2Proof.Claims

/-! ### UNIT_MASK tables that depend on the revision (R297) -/

/-- The words of an event with a table, whose count is no condition, run R148 from the event's own revision on, with the
bits of the rows that each revision has. -/
theorem runs_tableByRev {mk : EvtCtl → Instr} (info : EventInfo) {bits : Rev → BitVec 8}
    (hof : ∀ f, eventOf (mk f) = some (info, f)) (hne : info.table ≠ [])
    (hbits : ∀ rev, definedBits rev info.pairs = bits rev) (hkind : ∀ um, isCondition info um = false) :
    Runs mk ⟨info.select, fun rev => some (bits rev), info.minRev, fun _ => false⟩ := by
  have hrows : info.pairs.bits ≠ [] := by simpa [EventInfo.pairs] using hne
  have hdefined : definedOn info.pairs = fun rev => some (bits rev) := by
    funext rev
    rw [definedOn_eq, if_neg hrows, hbits]
  have hrule : info.rule = ⟨info.select, fun rev => some (bits rev), info.minRev, fun _ => false⟩ := by
    rw [EventInfo.rule, hdefined, funext hkind]
  exact hrule ▸ runs_rule hof

/-- Event E5h is defined before revision D, but with no bit of its mask. -/
theorem definedBits_evtE5 (rev : Rev) : definedBits rev evtE5.pairs = if 1 ≤ rank rev then 0x3C else 0 := by
  cases rev <;> rfl

/-- Event E8h is defined before revision E, but with no bit of its mask. -/
theorem definedBits_evtE8 (rev : Rev) : definedBits rev evtE8.pairs = if 2 ≤ rank rev then 0x80 else 0 := by
  cases rev <;> rfl

/-- Event ECh counts upstream writes (40h) from revision D on. -/
theorem definedBits_evtEC (rev : Rev) : definedBits rev evtEC.pairs = if 1 ≤ rank rev then 0x7F else 0x3F := by
  cases rev <;> rfl

/-! ### The statements about the event words (R291 to R306) -/

/-- Settles O12: as O9; the rows of E5h, E8h and ECh depend on the revision, and E9h and EAh are of revision E with all
their rows (R291 to R302). -/
theorem memoryControllerEventsRun : Obligations.MemoryControllerEventsRun :=
  ⟨runs_table evtE0 (fun _ => rfl) rfl (by decide) (by decide) fun _ => rfl,
    runs_plain evtE1 (fun _ => rfl) rfl rfl fun _ => rfl,
    runs_table evtE3 (fun _ => rfl) rfl (by decide) (by decide) fun _ => rfl,
    runs_table evtE4 (fun _ => rfl) rfl (by decide) (by decide) fun _ => rfl,
    runs_tableByRev evtE5 (fun _ => rfl) (by decide) definedBits_evtE5 fun _ => rfl,
    runs_tableByRev evtE8 (fun _ => rfl) (by decide) definedBits_evtE8 fun _ => rfl,
    runs_tableByRev evtE9 (fun _ => rfl) (by decide) (definedBits_of_preD (by decide)) fun _ => rfl,
    runs_tableByRev evtEA (fun _ => rfl) (by decide) (definedBits_of_preD (by decide)) fun _ => rfl,
    runs_table evtEB (fun _ => rfl) rfl (by decide) (by decide) fun _ => rfl,
    runs_tableByRev evtEC (fun _ => rfl) (by decide) definedBits_evtEC fun _ => rfl,
    runs_table evtEE (fun _ => rfl) rfl (by decide) (by decide) fun _ => rfl⟩

/-- Settles O13: as O9, with one and the same table for the three links (R304 to R306). -/
theorem hyperTransportEventsRun : Obligations.HyperTransportEventsRun :=
  ⟨runs_table evtF6 (fun _ => rfl) rfl (by decide) (by decide) fun _ => rfl,
    runs_table evtF7 (fun _ => rfl) rfl (by decide) (by decide) fun _ => rfl,
    runs_table evtF8 (fun _ => rfl) rfl (by decide) (by decide) fun _ => rfl⟩

end Sys2Proof.Machine

/-! The `#GP(0)` of the access instructions: what it leaves of the machine, and that above CPL 0 an instruction stream
moves nothing of its PMU (R316, R318, R320). -/

namespace Sys2Proof.Machine
open Sys2Proof.Claims

/-! ### Recording a `#GP` (R318) -/

@[simp] theorem core_recordGP (s : State) (c c' : CoreId) (code : Nat) (pc : Addr) :
    (s.recordGP c code pc).core c' = if c' = c then { s.core c with raised := some ⟨code, pc⟩ } else s.core c' :=
  core_setCore ..

@[simp] theorem recordGP_mem (s : State) (c : CoreId) (code : Nat) (pc : Addr) : (s.recordGP c code pc).mem = s.mem :=
  setCore_mem ..

@[simp] theorem recordGP_part (s : State) (c : CoreId) (code : Nat) (pc : Addr) :
    (s.recordGP c code pc).part = s.part :=
  setCore_part ..

/-- Recording the `#GP` of the instruction at the pc, after the turn has been taken, leaves all else as it was before. -/
theorem onlyRaised_recordGP (s : State) (c : CoreId) :
    OnlyRaised s (((nextTurn s).2.actFor c).recordGP c 0 (s.core c).pc) c := by
  obtain ⟨hp, hc, hm⟩ := nextTurn_spec s
  refine ⟨?_, ?_, ?_, ?_⟩
  · simp [hc]
  · simp [hc, other_ne]
  · simp [hm]
  · simp [hp]

theorem eq_or_eq_other (c c' : CoreId) : c' = c ∨ c' = c.other := by cases c <;> cases c' <;> decide

/-- A `#GP` neither halts nor wakes a core, so the counter logics tick on (R318). -/
theorem canTick_of_onlyRaised {s t : State} {c : CoreId} (h : OnlyRaised s t c) (c' : CoreId) :
    canTick t c' = canTick s c' := by
  obtain ⟨hown, hother, -, hpart⟩ := h
  have hhalted : (t.core c').halted = (s.core c').halted := by
    obtain rfl | rfl := eq_or_eq_other c c'
    · rw [hown]
    · rw [hother]
  rw [canTick, canTick, hasCore_congr hpart, hhalted]

/-- A core runs no instruction while its `#GP` is not picked up (R318). -/
theorem not_canRun_of_onlyRaised {s t : State} {c : CoreId} (h : OnlyRaised s t c) : canRun t c = false := by
  obtain ⟨hown, -⟩ := h
  simp [canRun, hown]

/-! ### Raising a `#GP` (R103, R111, R112) -/

/-- Under the conditions of R103, R111 and R112 an access instruction ends in the `#GP(0)` of its own core. -/
theorem exec_of_raisesGP {s : State} {i : Instr} (h : RaisesGP s.cur i) :
    exec i s = .fault (.generalProtection s.acting 0 s.cur.pc) := by
  cases i with
  | wrmsr =>
    obtain ⟨-, -, wrmsrFaults, -⟩ := wrmsrMeaning s
    exact wrmsrFaults h
  | rdmsr =>
    obtain ⟨-, -, rdmsrFaults, -⟩ := rdmsrMeaning s
    exact rdmsrFaults h
  | rdpmc =>
    obtain ⟨-, indexFaults, privilegeFaults⟩ := rdpmcMeaning s
    obtain ⟨h0, hpce⟩ | hindex := h
    · exact privilegeFaults h0 hpce
    · exact indexFaults hindex
  | _ => exact False.elim h

/-! ### The statements about exceptions and privilege -/

/-- Settles O30: the step records the `#GP(0)` that the fetched instruction ends in, and recording it moves nothing else. -/
theorem faultingAccessChangesNothing : Obligations.FaultingAccessChangesNothing := by
  intro s c i ht hr hf hgp hw
  obtain ⟨-, hc, -⟩ := nextTurn_spec s
  obtain ⟨-, -, stepRecords⟩ := stepRunsDecodedInstruction s c i ht hr hf hw
  have hstep := stepRecords _ (exec_of_raisesGP (by rwa [actFor_cur, hc]))
  have honly := onlyRaised_recordGP s c
  exact ⟨_, hstep, honly, canTick_of_onlyRaised honly, not_canRun_of_onlyRaised honly⟩

/-- Settles O36: on the instruction stream's turn only WRMSR touches a counter, and that only at CPL 0. -/
theorem userModeCannotWritePmu : Obligations.UserModeCannotWritePmu := by
  intro s t c h ht hcpl i
  obtain ⟨-, hc, -⟩ := nextTurn_spec s
  rw [← hc] at hcpl ⊢
  obtain e | ⟨-, -, -, h0, -⟩ | ⟨hu, -⟩ := turn_counter (step_next h) c i
  · exact e
  · exact absurd h0 hcpl
  · rw [ht] at hu; cases hu

end Sys2Proof.Machine

/-! Two reads of a counter that may have wrapped in between (R351), and the requests at reset (R340). -/

namespace Sys2Proof.Machine
open Sys2Proof.Claims

/-! ### The difference of two reads (R351) -/

/-- Over a run of ticks the sum of the increments is added to the counter as a 48-bit number (R141). -/
theorem counted_ctr_eq_add (f : EvtCtl) (t : Nat) (ns : List (BitVec 2 × Occ)) (k : Counter) :
    (counted f t ns k).ctr = k.ctr + BitVec.ofNat 48 (incrementSum f k.prev ns) := by
  obtain ⟨hctr, -⟩ := countIsSumOfIncrements f t ns k
  apply BitVec.eq_of_toNat_eq
  rw [hctr, BitVec.toNat_add, BitVec.toNat_ofNat, Nat.add_mod_mod]

/-- Without a bound on the increments the difference of two reads is right modulo `2^48` only (R351). -/
theorem incrementsBetween_counted (f : EvtCtl) (t : Nat) (ns : List (BitVec 2 × Occ)) (k : Counter) :
    incrementsBetween k.ctr (counted f t ns k).ctr = incrementSum f k.prev ns % 2 ^ 48 := by
  rw [incrementsBetween, counted_ctr_eq_add, BitVec.add_comm, BitVec.add_sub_cancel, BitVec.toNat_ofNat]

/-- Settles O17: below `2^48` the sum of the increments is its own remainder. -/
theorem differenceCountsIncrements : Obligations.DifferenceCountsIncrements := by
  intro f t ns k hlt
  rw [incrementsBetween_counted, Nat.mod_eq_of_lt hlt]

/-! ### Reset (R340) -/

/-- A counter that has requested nothing keeps its requests in order at every clock. -/
theorem requestsOrdered_of_irqs_eq_nil {k : Counter} (h : k.irqs = []) (clock : Nat) : requestsOrdered clock k := by
  rw [requestsOrdered, h]
  exact ⟨List.Pairwise.nil, List.forall_mem_nil _⟩

/-- Settles O41: by O43 no counter has requested anything at reset (log entry 12). -/
theorem resetRequestsOrdered : Obligations.ResetRequestsOrdered := by
  intro c i
  obtain ⟨-, -, hirqs, -⟩ := resetCountersDisabled c i
  exact requestsOrdered_of_irqs_eq_nil hirqs _

end Sys2Proof.Machine
